-- ==== Sys2Proof/Word.lean ====
section
/-! DEFINITION. The data words of the engine: bytes, nibbles, a five-byte sequence, eight digits. -/

namespace Sys2Proof

/-- One byte, bit 7 most significant (R17). -/
abbrev Byte := BitVec 8

/-- One nibble. -/
abbrev Nibble := BitVec 4

/-- Five bytes in wire order, `b0` first on the wire (R5, R18): a command frame, or the reply buffer. -/
structure Bytes5 where
  b0 : Byte
  b1 : Byte
  b2 : Byte
  b3 : Byte
  b4 : Byte
deriving DecidableEq, Repr, Inhabited

/-- All five bytes 0x00. -/
def zeroBytes : Bytes5 := ⟨0, 0, 0, 0, 0⟩

/-- Eight four-bit digits, `d0` most significant (R6, R70, R85). -/
structure Digits where
  d0 : Nibble
  d1 : Nibble
  d2 : Nibble
  d3 : Nibble
  d4 : Nibble
  d5 : Nibble
  d6 : Nibble
  d7 : Nibble
deriving DecidableEq, Repr, Inhabited

end Sys2Proof
end

