-- ==== Sys2Proof/Syntax.lean ====
section
/-! DEFINITION. The instructions: one constructor per row of spec/opcode_table.json, in the table's order. -/

namespace Sys2Proof

/-- The four wire command frames (R66 to R69) and the eight host operations (R77). An operand the row's operation
ignores (R84) is no argument. -/
inductive Instr where
  /-- SET_FREQ_FRAME: opcode 0x01 with eight frequency digits (R66, R70). -/
  | setFreqFrame (ds : Digits)
  /-- READ_FREQ_MODE: opcode 0x03 (R67). -/
  | readFreqMode
  /-- READ_RX_STATUS: opcode 0xE7 (R68). -/
  | readRxStatus
  /-- READ_TX_STATUS: opcode 0xF7 (R69). -/
  | readTxStatus
  /-- SET_FREQ: `none` is `req_freq_present = 0`, `some f` is `req_freq = f` (R142, R82). -/
  | setFreq (freq : Option (BitVec 32))
  /-- GET_FREQ_MODE (R143). -/
  | getFreqMode
  /-- GET_RX_STATUS (R144). -/
  | getRxStatus
  /-- GET_TX_STATUS (R145). -/
  | getTxStatus
  /-- RAW_EXCHANGE: `req_frame` and `req_len` (R146). -/
  | rawExchange (frame : Bytes5) (len : BitVec 3)
  /-- CONFIG_FRAMING: `req_len` (R147). -/
  | configFraming (len : BitVec 3)
  /-- Reserved host code 6 (R148). -/
  | reserved6
  /-- Reserved host code 7 (R148). -/
  | reserved7
deriving DecidableEq, Repr

/-- The eight host operation codes of `req_op` and of the register OP (R77, R31). -/
inductive HostOp where
  | setFreq
  | getFreqMode
  | getRxStatus
  | getTxStatus
  | rawExchange
  | configFraming
  | reserved6
  | reserved7
deriving DecidableEq, Repr, Inhabited

/-- The `req_*` fields of the host request port (R23): the request word Q by its fields (R76). -/
structure Request where
  op : BitVec 3
  freqPresent : Bool
  freq : BitVec 32
  len : BitVec 3
  frame : Bytes5
deriving DecidableEq, Repr, Inhabited

end Sys2Proof
end

