-- ==== Sys2Proof/Config.lean ====
section
/-! DEFINITION. The parameters of the engine: the constants the spec fixes (R5 to R13), the parameters it leaves to the
platform (R14, R16), the input pins of one clock cycle (R21 to R27), and the free values. -/

namespace Sys2Proof

/-- FREQ_MAX, the largest number with an 8-digit decimal form (R11). -/
def Config.freqMax : Nat := 99999999

/-- DEFAULT_FREQ (R7). -/
def Config.defaultFreq : BitVec 32 := 14575000

/-- RESET_CHUNK_SIZE (R8). -/
def Config.resetChunkSize : BitVec 3 := 1

/-- TIMEOUT_TICKS = TIMEOUT_MS + 1 (R9, R12). -/
def Config.timeoutTicks : BitVec 11 := 1001

/-- REPLY_BUF_BYTES, the largest reply length the engine accepts (R10). -/
def Config.replyBufBytes : BitVec 3 := 5

/-- TXS_FLAG_POLARITY: what a set bit 6 or 5 of the transmitter status says (R16). -/
inductive TxsPolarity where
  | setMeansTrue
  | clearMeansTrue
deriving DecidableEq, Repr, Inhabited

/-- The parameters of a run, fixed for the whole run (R46). `validRanges` holds the table behind IsValidRxFrequency
(R14) as plain data: the closed ranges of the frequencies it accepts (log 5). -/
structure Params where
  validRanges : List (Nat × Nat)
  txsPolarity : TxsPolarity
deriving DecidableEq, Repr, Inhabited

/-- The parameters `State.reset` has. DESIGN CHOICE (log 5, unsafe): every frequency up to FREQ_MAX valid, the
convention of 95_test_vectors.md; the polarity is the spec's default (R16, C1; log 6). -/
def Config.defaultParams : Params := ⟨[(0, Config.freqMax)], .setMeansTrue⟩

/-- The levels of the engine's input pins in one clock cycle (R21, R22, R23, R25, R26, R27). -/
structure Pins where
  rst : Bool
  chanConfigured : Bool
  reqValid : Bool
  req : Request
  txReady : Bool
  rxValid : Bool
  rxData : Byte
  tick : Bool
deriving DecidableEq, Repr, Inhabited

/-- A cycle in which nothing arrives: no reset, no request, no received byte, no tick; the channel is configured and
takes a byte (the conventions of 95_test_vectors.md). Only `State.withFetchWord` uses it (log 2). -/
def Config.quietPins : Pins := ⟨false, true, false, ⟨0, false, 0, 0, zeroBytes⟩, true, false, 0, false⟩

/-- FREE VALUE (log 1, safe): the pins of a cycle the state's schedule does not cover. The spec's inputs are free
(R185, U17). -/
opaque Config.freePins : Nat → Pins

/-- FREE VALUE (log 10, safe): the byte `tx_data` shows for an index above 4, which no run reaches (R33, R49). -/
opaque Config.freeTxByte : BitVec 3 → Byte

end Sys2Proof
end

