-- ==== Sys2Proof/Decode.lean ====
section
/-! DEFINITION. Decoding and encoding: the five bytes of a wire frame (R64 to R70) and the 79-bit host request word
(R76, R77). -/

namespace Sys2Proof

/-- Why a byte string is no instruction. -/
inductive DecodeError where
  /-- Byte 4 of a frame is none of the four opcodes (R75). Safe: the engine still sends such a frame (log 12). -/
  | unknownOpcode
  /-- A read opcode with a payload byte that is not 0x00 (R67, R68, R69, R75). Safe, as above. -/
  | nonzeroPayload
  /-- Bit 79 of a request's ten bytes is set; the request word has bits 78 to 0 (R76). Safe. -/
  | padBit
  /-- Neither five bytes (a frame) nor ten (a request word). Safe. -/
  | length
deriving DecidableEq, Repr

/-! ### Frames as words -/

/-- The 40-bit word of a frame, byte 0 most significant (R18, R65). -/
def wordOfFrame (f : Bytes5) : BitVec 40 := f.b0 ++ f.b1 ++ f.b2 ++ f.b3 ++ f.b4

/-- The bytes of a 40-bit frame word (R18, R65). -/
def frameOfWord (w : BitVec 40) : Bytes5 :=
  ⟨w.extractLsb' 32 8, w.extractLsb' 24 8, w.extractLsb' 16 8, w.extractLsb' 8 8, w.extractLsb' 0 8⟩

/-- The bytes in wire order. -/
def listOfFrame (f : Bytes5) : List Byte := [f.b0, f.b1, f.b2, f.b3, f.b4]

/-- Two digits in one byte, the first in the high nibble (R53). -/
def byteOfNibbles (hi lo : Nibble) : Byte := hi ++ lo

/-- The high nibble of a byte (R17). -/
def highNibble (b : Byte) : Nibble := b.extractLsb' 4 4

/-- The low nibble of a byte (R17). -/
def lowNibble (b : Byte) : Nibble := b.extractLsb' 0 4

/-- The payload digits of a frame: digit `dk` at `W[39-4k : 36-4k]` (R70). -/
def payloadDigits (f : Bytes5) : Digits :=
  ⟨highNibble f.b0, lowNibble f.b0, highNibble f.b1, lowNibble f.b1,
   highNibble f.b2, lowNibble f.b2, highNibble f.b3, lowNibble f.b3⟩

/-- The set-frequency frame with these payload digits: `dddddddd dddddddd dddddddd dddddddd 00000001` (R66, R70). -/
def frameOfDigits (ds : Digits) : Bytes5 :=
  ⟨byteOfNibbles ds.d0 ds.d1, byteOfNibbles ds.d2 ds.d3, byteOfNibbles ds.d4 ds.d5, byteOfNibbles ds.d6 ds.d7, 0x01⟩

/-- A frame with payload bytes `00 00 00 00` (R67, R68, R69). -/
def frameOfOpcode (opcode : Byte) : Bytes5 := ⟨0, 0, 0, 0, opcode⟩

/-- Bytes 0 to 3 are all 0x00. -/
def zeroPayload (f : Bytes5) : Bool :=
  decide (f.b0 = 0) && decide (f.b1 = 0) && decide (f.b2 = 0) && decide (f.b3 = 0)

/-- The instruction of a wire frame: byte 4 is the opcode (R64). Opcode 0x01 takes any payload, as the table's mask
does; whether its digits are decimal is `Instr.wellFormed` (log 13). -/
def decodeFrame (f : Bytes5) : Except DecodeError Instr :=
  if f.b4 = 0x01 then .ok (.setFreqFrame (payloadDigits f))
  else if f.b4 = 0x03 then if zeroPayload f then .ok .readFreqMode else .error .nonzeroPayload
  else if f.b4 = 0xE7 then if zeroPayload f then .ok .readRxStatus else .error .nonzeroPayload
  else if f.b4 = 0xF7 then if zeroPayload f then .ok .readTxStatus else .error .nonzeroPayload
  else .error .unknownOpcode

/-! ### Requests -/

/-- The 3-bit code of a host operation (R77). -/
def hostOpCode : HostOp → BitVec 3
  | .setFreq => 0
  | .getFreqMode => 1
  | .getRxStatus => 2
  | .getTxStatus => 3
  | .rawExchange => 4
  | .configFraming => 5
  | .reserved6 => 6
  | .reserved7 => 7

/-- The host operation of a 3-bit code (R77). -/
def hostOpOfCode (c : BitVec 3) : HostOp :=
  if c = 0 then .setFreq
  else if c = 1 then .getFreqMode
  else if c = 2 then .getRxStatus
  else if c = 3 then .getTxStatus
  else if c = 4 then .rawExchange
  else if c = 5 then .configFraming
  else if c = 6 then .reserved6
  else .reserved7

/-- The 79-bit request word Q of the request fields (R76). -/
def wordOfRequest (r : Request) : BitVec 79 :=
  r.op ++ BitVec.ofBool r.freqPresent ++ r.freq ++ r.len ++ wordOfFrame r.frame

/-- The request fields of a request word Q (R76). -/
def requestOfWord (q : BitVec 79) : Request :=
  ⟨q.extractLsb' 76 3, q.getLsbD 75, q.extractLsb' 43 32, q.extractLsb' 40 3, frameOfWord (q.extractLsb' 0 40)⟩

/-- The instruction of a request: `req_op` selects it (R77), the fields it does not use are ignored (R84). Total
(R83). -/
def decodeRequest (r : Request) : Instr :=
  match hostOpOfCode r.op with
  | .setFreq => .setFreq (if r.freqPresent then some r.freq else none)
  | .getFreqMode => .getFreqMode
  | .getRxStatus => .getRxStatus
  | .getTxStatus => .getTxStatus
  | .rawExchange => .rawExchange r.frame r.len
  | .configFraming => .configFraming r.len
  | .reserved6 => .reserved6
  | .reserved7 => .reserved7

/-- The ten bytes of a request word, most significant byte first, bit 79 zero (log 14). -/
def listOfRequestWord (q : BitVec 79) : List Byte :=
  [q.extractLsb' 72 8, q.extractLsb' 64 8, q.extractLsb' 56 8, q.extractLsb' 48 8, q.extractLsb' 40 8,
   q.extractLsb' 32 8, q.extractLsb' 24 8, q.extractLsb' 16 8, q.extractLsb' 8 8, q.extractLsb' 0 8]

/-- The request word of ten bytes, most significant byte first; bit 79 is dropped. -/
def requestWordOfBytes (hi lo : Bytes5) : BitVec 79 :=
  (wordOfFrame hi ++ wordOfFrame lo).extractLsb' 0 79

/-! ### The decoder and the encoder -/

/-- The instruction in a byte string: five bytes are a wire frame (R64), ten bytes a request word (log 14). -/
def decode : List Byte → Except DecodeError Instr
  | [b0, b1, b2, b3, b4] => decodeFrame ⟨b0, b1, b2, b3, b4⟩
  | [b0, b1, b2, b3, b4, b5, b6, b7, b8, b9] =>
    if b0.msb then .error .padBit
    else .ok (decodeRequest (requestOfWord (requestWordOfBytes ⟨b0, b1, b2, b3, b4⟩ ⟨b5, b6, b7, b8, b9⟩)))
  | _ => .error .length

/-- The fields of a request that uses only `op` (R84); the don't-care fields are 0. -/
def requestOfOp (op : HostOp) : Request := ⟨hostOpCode op, false, 0, 0, zeroBytes⟩

/-- The bytes of a request. -/
def encodeRequest (r : Request) : List Byte := listOfRequestWord (wordOfRequest r)

/-- The bytes of an instruction, from the encoding tables R66 to R70 (frames) and R76, R77, R84 (requests). -/
def encode : Instr → List Byte
  | .setFreqFrame ds => listOfFrame (frameOfDigits ds)
  | .readFreqMode => listOfFrame (frameOfOpcode 0x03)
  | .readRxStatus => listOfFrame (frameOfOpcode 0xE7)
  | .readTxStatus => listOfFrame (frameOfOpcode 0xF7)
  | .setFreq none => encodeRequest (requestOfOp .setFreq)
  | .setFreq (some f) => encodeRequest ⟨hostOpCode .setFreq, true, f, 0, zeroBytes⟩
  | .getFreqMode => encodeRequest (requestOfOp .getFreqMode)
  | .getRxStatus => encodeRequest (requestOfOp .getRxStatus)
  | .getTxStatus => encodeRequest (requestOfOp .getTxStatus)
  | .rawExchange frame len => encodeRequest ⟨hostOpCode .rawExchange, false, 0, len, frame⟩
  | .configFraming len => encodeRequest ⟨hostOpCode .configFraming, false, 0, len, zeroBytes⟩
  | .reserved6 => encodeRequest (requestOfOp .reserved6)
  | .reserved7 => encodeRequest (requestOfOp .reserved7)

/-- The instruction a decoder result holds, if any. -/
def instrOfResult : Except DecodeError Instr → Option Instr
  | .ok i => some i
  | .error _ => none

/-- The instruction the decoder reads from a table word: 40 bits are a frame word W, byte 0 = `W[39:32]`; anything wider
is a request word Q, of which the bits above 78 are no wires of the port (R23, R76; log 14). -/
def decodeTableWord (nbits w : Nat) : Option Instr :=
  if nbits ≤ 40 then instrOfResult (decode (listOfFrame (frameOfWord (BitVec.ofNat 40 w))))
  else instrOfResult (decode (listOfRequestWord (BitVec.ofNat 79 w)))

end Sys2Proof
end

