-- ==== Sys2Proof/Machine/Codec.lean ====
section
/-! DEFINITION. BinaryCodec: the pure functions of 40_codec.md, and the S-meter text of R109. -/

namespace Sys2Proof.Machine

/-- The decimal digit of weight `weight` of a number, as a nibble. -/
def decimalDigit (f weight : Nat) : Nibble := BitVec.ofNat 4 (f / weight % 10)

/-- Digits8 (R85): `dk = (f div 10^(7-k)) mod 10`. -/
def digits8 (f : BitVec 32) : Digits :=
  ⟨decimalDigit f.toNat 10000000, decimalDigit f.toNat 1000000, decimalDigit f.toNat 100000,
   decimalDigit f.toNat 10000, decimalDigit f.toNat 1000, decimalDigit f.toNat 100,
   decimalDigit f.toNat 10, decimalDigit f.toNat 1⟩

/-- BcdPack (R86): tens digit in the high nibble; `none` is its FormatError (R87). -/
def bcdPack (t u : Nibble) : Option Byte :=
  if t ≤ 9 ∧ u ≤ 9 then some (byteOfNibbles t u) else none

/-- BcdUnpack (R88): the two characters of the byte's hex rendering. -/
def bcdUnpack (b : Byte) : Nibble × Nibble := (highNibble b, lowNibble b)

/-- bcd_ok (R88): both nibbles are decimal digits. -/
def bcdOk (b : Byte) : Bool := decide (highNibble b ≤ 9) && decide (lowNibble b ≤ 9)

/-- ByteBits (R89): the identity on bytes. -/
def byteBits (b : Byte) : BitVec 8 := b

/-- DecValue (R91): the value of a list of digits, most significant first. -/
def decValue (ds : List Nibble) : Nat := ds.foldl (fun acc d => acc * 10 + d.toNat) 0

/-- SmeterText (R109): the reading the host derives from RES_SMETER; the engine outputs no text. -/
def smeterText (s : BitVec 4) : String :=
  if s ≤ 9 then "S" ++ toString s.toNat else "S9+" ++ toString ((s.toNat - 9) * 10) ++ "dB"

end Sys2Proof.Machine
end

