-- ==== Sys2Proof/Machine/FrameBuilder.lean ====
section
/-! DEFINITION. FrameBuilder: the command frames the engine builds (41_frame_builder.md). -/

namespace Sys2Proof.Machine

/-- FrameSetFreq (R93): the frame of eight digits, each pair through BcdPack; `none` if BcdPack fails (R87). -/
def frameOfPackedDigits (ds : Digits) : Option Bytes5 :=
  match bcdPack ds.d0 ds.d1, bcdPack ds.d2 ds.d3, bcdPack ds.d4 ds.d5, bcdPack ds.d6 ds.d7 with
  | some p0, some p1, some p2, some p3 => some ⟨p0, p1, p2, p3, 0x01⟩
  | _, _, _, _ => none

/-- FrameSetFreq(f) (R93): `Digits8(f)` packed, opcode 0x01. -/
def frameSetFreq (f : BitVec 32) : Option Bytes5 := frameOfPackedDigits (digits8 f)

/-- FrameReadFreqMode() (R96). -/
def frameReadFreqMode : Bytes5 := ⟨0x00, 0x00, 0x00, 0x00, 0x03⟩

/-- FrameReadRxStatus() (R97). -/
def frameReadRxStatus : Bytes5 := ⟨0x00, 0x00, 0x00, 0x00, 0xE7⟩

/-- FrameReadTxStatus() (R98). -/
def frameReadTxStatus : Bytes5 := ⟨0x00, 0x00, 0x00, 0x00, 0xF7⟩

/-- The reply length of a wire opcode (R74); an opcode the source does not define has none, and 0 is used for it where
the model must name one (R75; log 4). -/
def replyLength (opcode : Byte) : BitVec 3 :=
  if opcode = 0x03 then 5 else if opcode = 0xE7 then 1 else if opcode = 0xF7 then 1 else 0

end Sys2Proof.Machine
end

