-- ==== Sys2Proof/Machine/State.lean ====
section
/-! DEFINITION. The state of the engine as plain data: every register of 10_state.md section 2, and the model's own
fields that carry a run's parameters and inputs. The reasons a step can stop. The state after reset. -/

namespace Sys2Proof.Machine

/-- The register ST: the states of the TransportSession state machine (R30). -/
inductive Phase where
  | idle
  | sending
  | awaiting
  | replied
  | timedOut
  | cfgErr
  /-- ST = 6, which no run reaches (R138). -/
  | unused6
  /-- ST = 7, which no run reaches (R138). -/
  | unused7
deriving DecidableEq, Repr, Inhabited

/-- The outcome codes of RES_OUTCOME (R79). -/
inductive ResultCode where
  | ok
  | sent
  | linkTimeout
  | unreachableFreq
  | formatError
  | configError
  | reqInvalid
  | none
deriving DecidableEq, Repr, Inhabited

/-- The decoded result registers (R42, R43, R44), which every accept clears together (R120). -/
structure Results where
  freqBcd : BitVec 32
  mhz : BitVec 10
  khz : BitVec 10
  hz : BitVec 7
  modeId : BitVec 8
  squelched : Bool
  smeter : BitVec 4
  sOverDb : BitVec 6
  ptt : Bool
  hiswr : Bool
  split : Bool
deriving DecidableEq, Repr, Inhabited

/-- Every decoded result register 0 (R120, R167). -/
def zeroResults : Results := ⟨0, 0, 0, 0, 0, false, 0, 0, false, false, false⟩

/-- The machine. `st` to `res` are the engine's registers (R30 to R44). `params`, `sched` and `cycle` are the model's
own: a run's parameters (R46), the pins of the coming cycles, and the number of cycles taken (log 1, 5, 6). -/
structure State where
  st : Phase
  op : HostOp
  txbuf : Bytes5
  txIdx : BitVec 3
  expLen : BitVec 3
  chunkSize : BitVec 3
  rxbuf : Bytes5
  rxCnt : BitVec 3
  tmr : BitVec 11
  dropCnt : BitVec 16
  doneQ : Bool
  resOutcome : ResultCode
  res : Results
  params : Params
  sched : List Pins
  cycle : Nat
deriving DecidableEq, Repr

/-- Why the machine stops. -/
inductive Fault where
  /-- ST holds 6 or 7 in a cycle without reset (R138, U11). Raised by `quietCycle`. Safe: no run reaches it. -/
  | unreachableState
  /-- BcdPack was given a digit above 9 on the encode path (R87, U10). Raised by `execSetFreq`. Safe: `digits8` gives
  decimal digits only. -/
  | encodeFormatError
  /-- REPLIED with an OP that awaits no reply (R132 says no other OP can be there, and gives no effect; log 9). Raised
  by `replied`. Safe: no run reaches it. -/
  | unreachableReply
deriving DecidableEq, Repr

/-- Why an instruction has no meaning. -/
inductive Refusal where
  /-- The instruction is not modelled. Raised by `exec` only; here by no arm. Safe. -/
  | notModelled (mnemonic : String)
deriving DecidableEq, Repr

/-- What a step answers. -/
abbrev Result := Host.Outcome State Fault Refusal

/-- The registers after a reset cycle with `chan_configured = configured`; the parameters, the schedule and the cycle
count are the model's and are given (R167, R168). -/
def resetRegisters (configured : Bool) (params : Params) (sched : List Pins) (cycle : Nat) : State where
  st := if configured then .idle else .cfgErr
  op := .setFreq
  txbuf := zeroBytes
  txIdx := 0
  expLen := 0
  chunkSize := Config.resetChunkSize
  rxbuf := zeroBytes
  rxCnt := 0
  tmr := 0
  dropCnt := 0
  doneQ := false
  resOutcome := .none
  res := zeroResults
  params := params
  sched := sched
  cycle := cycle

/-- The machine right after reset with a configured channel (R167, R168; log 7), the default parameters (log 5, 6), no
pins scheduled and no cycle taken (log 1). -/
def State.reset : State := resetRegisters true Config.defaultParams [] 0

end Sys2Proof.Machine
end

