-- ==== Sys2Proof/Machine/Operands.lean ====
section
/-! DEFINITION. The operands of a request and the pins of a cycle: the effective frequency and its validation (R94, R95),
the legal lengths (R80), and reading and writing one byte of the frame and reply buffers. -/

namespace Sys2Proof.Machine

/-- The pins of the current cycle: the head of the schedule, or the free pins of this cycle (log 1). -/
def State.pins (s : State) : Pins :=
  match s.sched with
  | p :: _ => p
  | [] => Config.freePins s.cycle

/-- IsValidRxFrequency (R14): some range of the table holds the frequency (log 5). -/
def isValidRxFrequency (ps : Params) (f : BitVec 32) : Bool :=
  ps.validRanges.any (fun r => decide (r.1 ≤ f.toNat) && decide (f.toNat ≤ r.2))

/-- The effective frequency (R94, R82). -/
def effectiveFreq (freq : Option (BitVec 32)) : BitVec 32 := freq.getD Config.defaultFreq

/-- valid(f) (R95): within FREQ_MAX, and then accepted by the table. -/
def validFreq (ps : Params) (f : BitVec 32) : Bool :=
  decide (f.toNat ≤ Config.freqMax) && isValidRxFrequency ps f

/-- The lengths RAW_EXCHANGE takes: 0 to 5 (R80). -/
def rawLengthLegal (len : BitVec 3) : Bool := decide (len ≤ Config.replyBufBytes)

/-- The lengths CONFIG_FRAMING takes: 1 to 5 (R80). -/
def framingLengthLegal (len : BitVec 3) : Bool := decide (1 ≤ len) && decide (len ≤ Config.replyBufBytes)

/-- Byte `i` of five, `none` for `i > 4`. -/
def byteAt (f : Bytes5) (i : BitVec 3) : Option Byte :=
  if i = 0 then some f.b0
  else if i = 1 then some f.b1
  else if i = 2 then some f.b2
  else if i = 3 then some f.b3
  else if i = 4 then some f.b4
  else none

/-- Five bytes with byte `i` replaced; nothing is stored for `i > 4`, which no run reaches (R49; log 11). -/
def setByteAt (f : Bytes5) (i : BitVec 3) (b : Byte) : Bytes5 :=
  if i = 0 then { f with b0 := b }
  else if i = 1 then { f with b1 := b }
  else if i = 2 then { f with b2 := b }
  else if i = 3 then { f with b3 := b }
  else if i = 4 then { f with b4 := b }
  else f

/-- The byte `tx_data` offers in SENDING: `TXBUF[TX_IDX]` (R45), a free value for an index above 4 (log 10). -/
def txByte (s : State) : Byte := (byteAt s.txbuf s.txIdx).getD (Config.freeTxByte s.txIdx)

end Sys2Proof.Machine
end

