-- ==== Sys2Proof/Machine/Flags.lean ====
section
/-! DEFINITION. The flags and fields of the status bytes (R106 to R112, R47). -/

namespace Sys2Proof.Machine

/-- The squelch flag: bit 7 of the receiver status (R106). -/
def squelchFlag (b : Byte) : Bool := (byteBits b).getLsbD 7

/-- The S-meter value: bits 3 to 0 of the receiver status (R107). -/
def smeterField (b : Byte) : BitVec 4 := (byteBits b).extractLsb' 0 4

/-- dB above S9: 0 up to 9, else (s - 9) * 10 (R108). -/
def overS9 (s : BitVec 4) : BitVec 6 := if s ≤ 9 then 0 else BitVec.ofNat 6 ((s.toNat - 9) * 10)

/-- The PTT flag: bit 7 of the transmitter status, inverted (R110). -/
def pttFlag (b : Byte) : Bool := !(byteBits b).getLsbD 7

/-- A flag bit read with the polarity switch (R16). -/
def polarFlag (p : TxsPolarity) (bit : Bool) : Bool :=
  match p with
  | .setMeansTrue => bit
  | .clearMeansTrue => !bit

/-- The high-SWR flag: bit 6 of the transmitter status (R111). -/
def hiswrFlag (p : TxsPolarity) (b : Byte) : Bool := polarFlag p ((byteBits b).getLsbD 6)

/-- The split flag: bit 5 of the transmitter status (R112). -/
def splitFlag (p : TxsPolarity) (b : Byte) : Bool := polarFlag p ((byteBits b).getLsbD 5)

end Sys2Proof.Machine
end

