-- ==== Sys2Proof/Machine/ResponseDecoder.lean ====
section
/-! DEFINITION. ResponseDecoder: the three decoders on the reply buffer (42_response_decoder.md). -/

namespace Sys2Proof.Machine

/-- freq_ok: every frequency nibble is a decimal digit; the mode id is never checked (R102). -/
def freqOk (r : Bytes5) : Bool := bcdOk r.b0 && bcdOk r.b1 && bcdOk r.b2 && bcdOk r.b3

/-- The digits d0 to d7 of a reply (R101). -/
def replyDigits (r : Bytes5) : Digits :=
  ⟨(bcdUnpack r.b0).1, (bcdUnpack r.b0).2, (bcdUnpack r.b1).1, (bcdUnpack r.b1).2,
   (bcdUnpack r.b2).1, (bcdUnpack r.b2).2, (bcdUnpack r.b3).1, (bcdUnpack r.b3).2⟩

/-- RES_FREQ_BCD of a reply: bytes 0 to 3 in order, d0 in bits 31:28 (R103, R55). -/
def replyFreqBcd (r : Bytes5) : BitVec 32 := r.b0 ++ r.b1 ++ r.b2 ++ r.b3

/-- The frequency-and-mode results of a reply with `freqOk` (R103, R104, R105), the other results as they were. -/
def decodeFreqMode (r : Bytes5) (old : Results) : Results :=
  let ds := replyDigits r
  { old with
    freqBcd := replyFreqBcd r
    mhz := BitVec.ofNat 10 (decValue [ds.d0, ds.d1, ds.d2])
    khz := BitVec.ofNat 10 (decValue [ds.d3, ds.d4, ds.d5])
    hz := BitVec.ofNat 7 (decValue [ds.d6, ds.d7])
    modeId := r.b4 }

/-- The receiver-status results of a status byte (R106, R107, R108), the other results as they were. -/
def decodeRxStatus (b : Byte) (old : Results) : Results :=
  { old with
    squelched := squelchFlag b
    smeter := smeterField b
    sOverDb := overS9 (smeterField b) }

/-- The transmitter-status results of a status byte (R110, R111, R112), the other results as they were. -/
def decodeTxStatus (p : TxsPolarity) (b : Byte) (old : Results) : Results :=
  { old with
    ptt := pttFlag b
    hiswr := hiswrFlag p b
    split := splitFlag p b }

end Sys2Proof.Machine
end

