-- ==== Sys2Proof/Machine/Ops.lean ====
section
/-! DEFINITION. The shared operations of one clock cycle (43_transport_session.md). An operation with two states reads the
registers of the current cycle from the first and writes into the second, since no rule reads a value written in the
same cycle (R19). The engine takes no exception (R149, R160): every error ends in `complete`. -/

namespace Sys2Proof.Machine

/-! ### What every cycle does -/

/-- The start of a cycle's writes: DONE_Q 0 (R136); the model's schedule and cycle count move on (log 1). -/
def nextCycle (s : State) : State := { s with doneQ := false, sched := s.sched.tail, cycle := s.cycle + 1 }

/-- collect (R126): a byte arrives, the engine is in SENDING or in AWAITING before the timeout, and the reply is short
of EXP_LEN. -/
def collects (s : State) : Bool :=
  s.pins.rxValid &&
  (decide (s.st = .sending) || (decide (s.st = .awaiting) && decide (s.tmr < Config.timeoutTicks))) &&
  decide (s.rxCnt < s.expLen)

/-- sat_16(n + 1) (R20, R127). -/
def saturatingSucc (n : BitVec 16) : BitVec 16 := if n = 0xFFFF then 0xFFFF else n + 1

/-- RxHandle: an arriving byte is stored as the next reply byte (R126) or dropped and counted (R127). -/
def rxHandle (s n : State) : State :=
  if collects s then { n with rxbuf := setByteAt s.rxbuf s.rxCnt s.pins.rxData, rxCnt := s.rxCnt + 1 }
  else if s.pins.rxValid then { n with dropCnt := saturatingSucc s.dropCnt }
  else n

/-- The reply timer counts this cycle's tick (R129). -/
def timerCounts (s : State) : Bool :=
  decide (s.st = .awaiting) && s.pins.tick && decide (s.tmr < Config.timeoutTicks)

/-- TimerHandle (R129). -/
def timerHandle (s n : State) : State := if timerCounts s then { n with tmr := s.tmr + 1 } else n

/-- What every cycle without reset does before the case of ST (R118). -/
def beginCycle (s : State) : State := timerHandle s (rxHandle s (nextCycle s))

/-! ### Completion and accept -/

/-- complete(code) (R135): the outcome, the completion pulse, and back to IDLE unless in CFGERR. -/
def complete (code : ResultCode) (n : State) : State :=
  { n with resOutcome := code, doneQ := true, st := if n.st = .cfgErr then .cfgErr else .idle }

/-- The common part of an accept (R120). -/
def acceptCommon (op : HostOp) (n : State) : State :=
  { n with op := op, resOutcome := .none, res := zeroResults, rxbuf := zeroBytes, rxCnt := 0 }

/-- StartExchange(frame, n) (R121). -/
def startExchange (frame : Bytes5) (len : BitVec 3) (n : State) : State :=
  { n with txbuf := frame, txIdx := 0, expLen := len,
           chunkSize := if 1 ≤ len then len else n.chunkSize, st := .sending }

/-- CompleteNow(code) (R121). -/
def completeNow (code : ResultCode) (n : State) : State := complete code { n with expLen := 0 }

/-! ### The cases of ST without an accept -/

/-- Send (R122 to R125), and nothing in the states no run reaches with TX_IDX above 4 (R117; log 10). -/
def send (s n : State) : State :=
  if s.pins.txReady then
    if s.txIdx < 4 then { n with txIdx := s.txIdx + 1 }
    else if s.txIdx = 4 then
      if s.expLen = 0 then complete .sent n else { n with st := .awaiting, tmr := 0 }
    else n
  else n

/-- Await: the reply is complete (R128, first on a tie, R131), or the timeout (R130), or neither. -/
def await (s n : State) : State :=
  if s.rxCnt = s.expLen then { n with st := .replied }
  else if s.rxCnt < s.expLen ∧ s.tmr = Config.timeoutTicks then { n with st := .timedOut }
  else n

/-- The completion action of GET_FREQ_MODE (R143, R102). -/
def completeFreqMode (s n : State) : State :=
  if freqOk s.rxbuf then complete .ok { n with res := decodeFreqMode s.rxbuf s.res } else complete .formatError n

/-- The completion action of GET_RX_STATUS (R144). -/
def completeRxStatus (s n : State) : State := complete .ok { n with res := decodeRxStatus s.rxbuf.b0 s.res }

/-- The completion action of GET_TX_STATUS (R145). -/
def completeTxStatus (s n : State) : State :=
  complete .ok { n with res := decodeTxStatus s.params.txsPolarity s.rxbuf.b0 s.res }

/-- The completion action of RAW_EXCHANGE (R146). -/
def completeRaw (n : State) : State := complete .ok n

/-- Replied: the completion action of the operation in OP (R132); no other OP can be there (log 9). -/
def replied (s n : State) : Result :=
  match s.op with
  | .getFreqMode => .next (completeFreqMode s n)
  | .getRxStatus => .next (completeRxStatus s n)
  | .getTxStatus => .next (completeTxStatus s n)
  | .rawExchange => .next (completeRaw n)
  | .setFreq => .fault .unreachableReply
  | .configFraming => .fault .unreachableReply
  | .reserved6 => .fault .unreachableReply
  | .reserved7 => .fault .unreachableReply

/-- TimedOut (R133). -/
def timedOut (n : State) : State := complete .linkTimeout { n with rxbuf := zeroBytes, rxCnt := 0 }

/-- A cycle without reset in which no request is accepted (R118). -/
def quietCycle (s : State) : Result :=
  match s.st with
  | .idle => .next (beginCycle s)
  | .sending => .next (send s (beginCycle s))
  | .awaiting => .next (await s (beginCycle s))
  | .replied => replied s (beginCycle s)
  | .timedOut => .next (timedOut (beginCycle s))
  | .cfgErr => .next (beginCycle s)
  | .unused6 => .fault .unreachableState
  | .unused7 => .fault .unreachableState

/-! ### A cycle in which a request is offered -/

/-- A cycle without reset in which operation `op` is offered: accepted with its operation part in IDLE (R119 to R121),
accepted with CONFIG_ERROR in CFGERR (R134), waiting in any other state (R119). -/
def requestCycle (op : HostOp) (action : State → Result) (s : State) : Result :=
  match s.st with
  | .idle => action (acceptCommon op (beginCycle s))
  | .cfgErr => .next (completeNow .configError (acceptCommon op (beginCycle s)))
  | .sending => quietCycle s
  | .awaiting => quietCycle s
  | .replied => quietCycle s
  | .timedOut => quietCycle s
  | .unused6 => quietCycle s
  | .unused7 => quietCycle s

/-- A cycle without reset in which a bare wire frame is executed: in SENDING the frame in TXBUF is being sent (R122 to
R125); in IDLE it enters by the one way the engine has for a frame the host names, RAW_EXCHANGE with the frame's own
reply length (R75, R146, R74; log 3). -/
def wireCycle (frame : Bytes5) (s : State) : Result :=
  requestCycle .rawExchange (fun n => .next (startExchange frame (replyLength frame.b4) n)) s

/-- A reset cycle (R167): the registers of reset, ST by the strap (R168); nothing else happens (R158, R170). -/
def resetCycle (s : State) : State :=
  resetRegisters s.pins.chanConfigured s.params s.sched.tail (s.cycle + 1)

end Sys2Proof.Machine
end

