-- ==== Sys2Proof/Machine/HostOperations.lean ====
section
/-! DEFINITION. The meanings of the eight host operations (44_operations.md). Their completion actions are run by
`replied` (Ops), in the cycle R132 gives them. -/

namespace Sys2Proof.Machine

/-- SET_FREQ's accept action (R142): the validated frequency's frame, or UNREACHABLE_FREQ. -/
def acceptSetFreq (f : BitVec 32) (n : State) : Result :=
  if validFreq n.params f then
    match frameSetFreq f with
    | some frame => .next (startExchange frame 0 n)
    | none => .fault .encodeFormatError
  else .next (completeNow .unreachableFreq n)

/-- SET_FREQ (R142, R94, R95). -/
def execSetFreq (freq : Option (BitVec 32)) (s : State) : Result :=
  requestCycle .setFreq (acceptSetFreq (effectiveFreq freq)) s

/-- GET_FREQ_MODE (R143). -/
def execGetFreqMode (s : State) : Result :=
  requestCycle .getFreqMode (fun n => .next (startExchange frameReadFreqMode 5 n)) s

/-- GET_RX_STATUS (R144). -/
def execGetRxStatus (s : State) : Result :=
  requestCycle .getRxStatus (fun n => .next (startExchange frameReadRxStatus 1 n)) s

/-- GET_TX_STATUS (R145). -/
def execGetTxStatus (s : State) : Result :=
  requestCycle .getTxStatus (fun n => .next (startExchange frameReadTxStatus 1 n)) s

/-- RAW_EXCHANGE's accept action (R146). -/
def acceptRaw (frame : Bytes5) (len : BitVec 3) (n : State) : Result :=
  if rawLengthLegal len then .next (startExchange frame len n) else .next (completeNow .reqInvalid n)

/-- RAW_EXCHANGE (R146). -/
def execRawExchange (frame : Bytes5) (len : BitVec 3) (s : State) : Result :=
  requestCycle .rawExchange (acceptRaw frame len) s

/-- CONFIG_FRAMING's accept action (R147). -/
def acceptFraming (len : BitVec 3) (n : State) : Result :=
  if framingLengthLegal len then .next (completeNow .ok { n with chunkSize := len })
  else .next (completeNow .reqInvalid n)

/-- CONFIG_FRAMING (R147). -/
def execConfigFraming (len : BitVec 3) (s : State) : Result := requestCycle .configFraming (acceptFraming len) s

/-- RESERVED6 (R148). -/
def execReserved6 (s : State) : Result := requestCycle .reserved6 (fun n => .next (completeNow .reqInvalid n)) s

/-- RESERVED7 (R148). -/
def execReserved7 (s : State) : Result := requestCycle .reserved7 (fun n => .next (completeNow .reqInvalid n)) s

end Sys2Proof.Machine
end

