-- ==== Sys2Proof/Machine/WireFrames.lean ====
section
/-! DEFINITION. The meanings of the four wire command frames (R66 to R69). -/

namespace Sys2Proof.Machine

/-- SET_FREQ_FRAME (R66, R93): opcode 0x01, reply length 0. -/
def execSetFreqFrame (ds : Digits) (s : State) : Result := wireCycle (frameOfDigits ds) s

/-- READ_FREQ_MODE (R67, R96): opcode 0x03, reply length 5. -/
def execReadFreqMode (s : State) : Result := wireCycle frameReadFreqMode s

/-- READ_RX_STATUS (R68, R97): opcode 0xE7, reply length 1. -/
def execReadRxStatus (s : State) : Result := wireCycle frameReadRxStatus s

/-- READ_TX_STATUS (R69, R98): opcode 0xF7, reply length 1. -/
def execReadTxStatus (s : State) : Result := wireCycle frameReadTxStatus s

end Sys2Proof.Machine
end

