-- ==== Sys2Proof/Machine/Dispatch.lean ====
section
/-! DEFINITION. The dispatch: one arm per constructor of Instr. -/

namespace Sys2Proof.Machine

/-- The clock cycle, without reset, in which instruction `i` is offered (host operations) or on the wire (frames). -/
def exec (i : Instr) (s : State) : Host.Outcome State Fault Refusal :=
  match i with
  | .setFreqFrame ds => Sys2Proof.Machine.execSetFreqFrame ds s
  | .readFreqMode => Sys2Proof.Machine.execReadFreqMode s
  | .readRxStatus => Sys2Proof.Machine.execReadRxStatus s
  | .readTxStatus => Sys2Proof.Machine.execReadTxStatus s
  | .setFreq freq => Sys2Proof.Machine.execSetFreq freq s
  | .getFreqMode => Sys2Proof.Machine.execGetFreqMode s
  | .getRxStatus => Sys2Proof.Machine.execGetRxStatus s
  | .getTxStatus => Sys2Proof.Machine.execGetTxStatus s
  | .rawExchange frame len => Sys2Proof.Machine.execRawExchange frame len s
  | .configFraming len => Sys2Proof.Machine.execConfigFraming len s
  | .reserved6 => Sys2Proof.Machine.execReserved6 s
  | .reserved7 => Sys2Proof.Machine.execReserved7 s

end Sys2Proof.Machine
end

