-- ==== Sys2Proof/Machine/Fetch.lean ====
section
/-! DEFINITION. What a cycle runs: the reset, the request on the port, the frame in TXBUF, or nothing. And how a word is
placed where the next cycle fetches it. -/

namespace Sys2Proof.Machine

/-- What the current cycle runs. -/
inductive Fetched where
  /-- A reset cycle (R158). -/
  | reset
  /-- This instruction. -/
  | run (i : Instr)
  /-- No instruction: the state machine alone (R118). -/
  | quiet
deriving DecidableEq, Repr

/-- The frame on the wire: TXBUF, if it decodes; any other frame is sent all the same (R75; log 12). -/
def fetchFrame (s : State) : Fetched :=
  match decodeFrame s.txbuf with
  | .ok i => .run i
  | .error _ => .quiet

/-- The request on the port, if the host offers one (R119, R62). -/
def fetchRequest (s : State) : Fetched := if s.pins.reqValid then .run (decodeRequest s.pins.req) else .quiet

/-- What the current cycle runs: reset over everything (R158), a request in IDLE and CFGERR (R45, R119), the frame in
TXBUF in SENDING (log 3), nothing in the other states. -/
def fetch (s : State) : Fetched :=
  if s.pins.rst then .reset
  else
    match s.st with
    | .idle => fetchRequest s
    | .cfgErr => fetchRequest s
    | .sending => fetchFrame s
    | .awaiting => .quiet
    | .replied => .quiet
    | .timedOut => .quiet
    | .unused6 => .quiet
    | .unused7 => .quiet

/-- The pins of the schedule's first cycle, the quiet pins if it lists none (log 2). -/
def scheduledPins (s : State) : Pins := s.sched.head?.getD Config.quietPins

/-- The request fields of a host-request word, placed on the port of the next cycle (log 2). -/
def offerRequest (w : Nat) (s : State) : State :=
  { s with
    sched := { scheduledPins s with
               rst := false, reqValid := true, req := requestOfWord (BitVec.ofNat 79 w) } :: s.sched.tail
    st := if s.st = .cfgErr then .cfgErr else .idle }

/-- The state in which the engine has just taken the frame of a frame word and begins to send it, with the frame's reply
length, and no reset in the next cycle (log 4). -/
def loadFrame (w : Nat) (s : State) : State :=
  let frame := frameOfWord (BitVec.ofNat 40 w)
  startExchange frame (replyLength frame.b4)
    (acceptCommon .rawExchange { s with sched := { scheduledPins s with rst := false } :: s.sched.tail })

end Sys2Proof.Machine
end

