-- ==== Sys2Proof/Machine/Step.lean ====
section
/-! DEFINITION. The step: one clock cycle (R19, R118, R158). -/

namespace Sys2Proof.Machine

/-- One clock cycle: the reset cycle, the instruction the cycle runs, or the state machine alone. -/
def step (s : State) : Host.Outcome State Fault Refusal :=
  match fetch s with
  | .reset => .next (resetCycle s)
  | .run i => exec i s
  | .quiet => quietCycle s

/-- `s` with the instruction of a table word placed where the next step fetches it: a frame word in TXBUF in SENDING
(log 4), a request word on the request port (log 2). -/
def State.withFetchWord (s : State) (nbits w : Nat) : State := if nbits ≤ 40 then loadFrame w s else offerRequest w s

end Sys2Proof.Machine
end

