-- ==== Sys2Proof/Machine/Outputs.lean ====
section
/-! DEFINITION. The outputs of the engine in one cycle: functions of the registers and of the cycle's pins (R24, R25, R29,
R45). Reading one has no side effect (R56). -/

namespace Sys2Proof.Machine

/-- The 3-bit code of ST (R30). -/
def phaseCode : Phase → BitVec 3
  | .idle => 0
  | .sending => 1
  | .awaiting => 2
  | .replied => 3
  | .timedOut => 4
  | .cfgErr => 5
  | .unused6 => 6
  | .unused7 => 7

/-- The 3-bit code of an outcome (R79). -/
def resultCode : ResultCode → BitVec 3
  | .ok => 0
  | .sent => 1
  | .linkTimeout => 2
  | .unreachableFreq => 3
  | .formatError => 4
  | .configError => 5
  | .reqInvalid => 6
  | .none => 7

/-- The output ports: request ready (R23), responses (R24), channel transmit (R25), lookup (R28), status (R29). -/
structure Outputs where
  reqReady : Bool
  rspDone : Bool
  resOutcome : BitVec 3
  resOp : BitVec 3
  resLen : BitVec 3
  resRaw : Bytes5
  results : Sys2Proof.Machine.Results
  txValid : Bool
  txData : Byte
  vfFreq : BitVec 32
  busy : Bool
  stateCode : BitVec 3
  chunkSize : BitVec 3
  dropCnt : BitVec 16
deriving DecidableEq, Repr

/-- ST is IDLE or CFGERR. -/
def restPhase (p : Phase) : Bool := decide (p = .idle) || decide (p = .cfgErr)

/-- req_ready (R45). -/
def reqReady (s : State) : Bool := !s.pins.rst && restPhase s.st

/-- tx_valid (R45). -/
def txValid (s : State) : Bool := !s.pins.rst && decide (s.st = .sending)

/-- tx_data (R45). -/
def txData (s : State) : Byte := if s.st = .sending then txByte s else 0

/-- vf_freq (R45): the effective frequency of the request on the port, in IDLE with the code of SET_FREQ. -/
def vfFreq (s : State) : BitVec 32 :=
  if s.st = .idle ∧ s.pins.req.op = hostOpCode .setFreq then
    effectiveFreq (if s.pins.req.freqPresent then some s.pins.req.freq else none)
  else 0

/-- vf_ok (R28): the answer of the validity table to `vf_freq`, in the same cycle. -/
def vfOk (s : State) : Bool := isValidRxFrequency s.params (vfFreq s)

/-- The byte the channel takes in this cycle, if any: `tx_valid` and `tx_ready` (R25). -/
def byteSent (s : State) : Option Byte := if txValid s && s.pins.txReady then some (txData s) else none

/-- The outputs of the current cycle (R24, R25, R29, R45). -/
def State.outputs (s : State) : Outputs where
  reqReady := reqReady s
  rspDone := s.doneQ
  resOutcome := resultCode s.resOutcome
  resOp := hostOpCode s.op
  resLen := s.expLen
  resRaw := s.rxbuf
  results := s.res
  txValid := txValid s
  txData := txData s
  vfFreq := vfFreq s
  busy := !restPhase s.st
  stateCode := phaseCode s.st
  chunkSize := s.chunkSize
  dropCnt := s.dropCnt

end Sys2Proof.Machine
end

