-- ==== Sys2Proof/Safety.lean ====
section
/-! DEFINITION. What a sound state and a safe step are. -/

namespace Sys2Proof.Machine

/-- The engine is in an exchange: SENDING, AWAITING, REPLIED or TIMEDOUT. -/
def inExchange (p : Phase) : Bool :=
  decide (p = .sending) || decide (p = .awaiting) || decide (p = .replied) || decide (p = .timedOut)

/-- RXBUF[i] = 0x00 for every i ≥ RX_CNT (R49). -/
def tailZero (r : Bytes5) (cnt : BitVec 3) : Bool :=
  (decide (0 < cnt) || decide (r.b0 = 0)) && (decide (1 < cnt) || decide (r.b1 = 0)) &&
  (decide (2 < cnt) || decide (r.b2 = 0)) && (decide (3 < cnt) || decide (r.b3 = 0)) &&
  (decide (4 < cnt) || decide (r.b4 = 0))

/-- The invariants of R49, one conjunct a line of the rule. -/
structure State.Inv (s : State) : Prop where
  legal : s.st ≠ .unused6 ∧ s.st ≠ .unused7
  lengths : s.rxCnt ≤ s.expLen ∧ s.expLen ≤ 5
  chunk : 1 ≤ s.chunkSize ∧ s.chunkSize ≤ 5
  sending : s.st = .sending → s.txIdx ≤ 4
  awaiting : s.st = .awaiting → 1 ≤ s.expLen ∧ s.tmr ≤ 1001
  replied : s.st = .replied → s.rxCnt = s.expLen ∧ 1 ≤ s.expLen
  framed : s.st = .sending ∨ s.st = .awaiting ∨ s.st = .replied → 1 ≤ s.expLen → s.chunkSize = s.expLen
  pending : inExchange s.st = true → s.resOutcome = .none
  clean : inExchange s.st = true → tailZero s.rxbuf s.rxCnt = true

/-- EXP_LEN is the expected reply length of the operation in OP (R100). RAW_EXCHANGE takes any length; the operations
that start no exchange have none. -/
def lengthFits : HostOp → BitVec 3 → Bool
  | .setFreq, len => decide (len = 0)
  | .getFreqMode, len => decide (len = 5)
  | .getRxStatus, len => decide (len = 1)
  | .getTxStatus, len => decide (len = 1)
  | .rawExchange, _ => true
  | .configFraming, _ => false
  | .reserved6, _ => false
  | .reserved7, _ => false

/-- In an exchange, OP is an operation that starts one and EXP_LEN is its reply length (R100, R115, R132). -/
def State.OpInv (s : State) : Prop := inExchange s.st = true → lengthFits s.op s.expLen = true

/-- In TIMEDOUT a reply was awaited and the chunk size is its length (R121, R130, R137); R49 says this of the other states
of an exchange. -/
def State.TimedInv (s : State) : Prop := s.st = .timedOut → 1 ≤ s.expLen ∧ s.chunkSize = s.expLen

/-- A completion pulse is seen in IDLE or CFGERR, with an outcome (R135, R136). -/
def State.DoneInv (s : State) : Prop := s.doneQ = true → (s.st = .idle ∨ s.st = .cfgErr) ∧ s.resOutcome ≠ .none

/-- During an exchange every decoded result register is 0: the accept cleared them, and only a completion writes them
(R42, R43, R44, R120). -/
def State.ClearedInv (s : State) : Prop := inExchange s.st = true → s.res = zeroResults

/-- A state every run from reset stays in. -/
structure State.Sound (s : State) : Prop where
  inv : s.Inv
  opInv : s.OpInv
  timed : s.TimedInv
  done : s.DoneInv
  cleared : s.ClearedInv

/-- The operation an offered instruction is accepted as: its own host operation, RAW_EXCHANGE for a bare frame (log 3). -/
def offeredOp : Instr → HostOp
  | .setFreqFrame _ => .rawExchange
  | .readFreqMode => .rawExchange
  | .readRxStatus => .rawExchange
  | .readTxStatus => .rawExchange
  | .setFreq _ => .setFreq
  | .getFreqMode => .getFreqMode
  | .getRxStatus => .getRxStatus
  | .getTxStatus => .getTxStatus
  | .rawExchange _ _ => .rawExchange
  | .configFraming _ => .configFraming
  | .reserved6 => .reserved6
  | .reserved7 => .reserved7

/-- An accept of this request in IDLE starts an exchange: SET_FREQ with a valid effective frequency, the three reads,
RAW_EXCHANGE with a legal length (R121, R142 to R148). Every other request completes at once. -/
def startsExchange (ps : Params) (r : Request) : Bool :=
  (decide (r.op = 0) && validFreq ps (if r.freqPresent then r.freq else 14575000)) ||
  decide (r.op = 1) || decide (r.op = 2) || decide (r.op = 3) || (decide (r.op = 4) && decide (r.len ≤ 5))

/-- The machine after a cycle in which the engine collects nothing, counts no tick and does nothing else: the pulse is
over (R136), an arriving byte is dropped and counted (R127), and the model's schedule and cycle count move on (log 1). -/
def idleAfter (s : State) : State :=
  { s with
    doneQ := false
    dropCnt := if s.pins.rxValid then saturatingSucc s.dropCnt else s.dropCnt
    sched := s.sched.tail
    cycle := s.cycle + 1 }

/-- The machine after the common part of an accept of `op`, in a state that collects nothing (R120, R127). -/
def acceptedAfter (op : HostOp) (s : State) : State :=
  { idleAfter s with op := op, resOutcome := .none, res := zeroResults, rxbuf := zeroBytes, rxCnt := 0 }

/-- The machine after a cycle of SENDING, but for the send path (R122 to R125): the pulse is over (R136), an arriving byte
is stored as the next reply byte while the reply is short of EXP_LEN (R126), else dropped and counted (R127), and the
model's schedule and cycle count move on (log 1). -/
def sendingAfter (s : State) : State :=
  { s with
    doneQ := false
    rxbuf := if s.pins.rxValid && decide (s.rxCnt < s.expLen) then setByteAt s.rxbuf s.rxCnt s.pins.rxData else s.rxbuf
    rxCnt := if s.pins.rxValid && decide (s.rxCnt < s.expLen) then s.rxCnt + 1 else s.rxCnt
    dropCnt := if s.pins.rxValid && !decide (s.rxCnt < s.expLen) then saturatingSucc s.dropCnt else s.dropCnt
    sched := s.sched.tail
    cycle := s.cycle + 1 }

end Sys2Proof.Machine
end

