-- ==== Sys2Proof/WellFormed.lean ====
section
/-! DEFINITION. Which instructions are well formed: the operands the spec's encoding admits. -/

namespace Sys2Proof

/-- The digits of a frequency payload are decimal: "each nibble of `d` is one decimal digit 0-9" (R66). -/
def Digits.decimal (ds : Digits) : Bool :=
  decide (ds.d0 ≤ 9) && decide (ds.d1 ≤ 9) && decide (ds.d2 ≤ 9) && decide (ds.d3 ≤ 9) &&
  decide (ds.d4 ≤ 9) && decide (ds.d5 ≤ 9) && decide (ds.d6 ≤ 9) && decide (ds.d7 ≤ 9)

/-- Well-formed instructions. Every value of a host operation's operands is a request (R83): an illegal length or an
unreachable frequency is an outcome, not a bad encoding. -/
def Instr.wellFormed : Instr → Bool
  | .setFreqFrame ds => ds.decimal
  | .readFreqMode => true
  | .readRxStatus => true
  | .readTxStatus => true
  | .setFreq _ => true
  | .getFreqMode => true
  | .getRxStatus => true
  | .getTxStatus => true
  | .rawExchange _ _ => true
  | .configFraming _ => true
  | .reserved6 => true
  | .reserved7 => true

end Sys2Proof
end

