-- ==== Sys2Proof/Certificates/Slice0/Obligations.lean ====
section
/-! DEFINITION. The statements for the provers. -/

open Sys2Proof Sys2Proof.Machine

/-! ### Encoding -/

/-- Decoding the encoding of a well-formed instruction gives the instruction (R64 to R70, R76, R77, R84). -/
def Obligations.DecodeEncodeAgree : Prop :=
  ∀ i : Instr, i.wellFormed = true → decode (encode i) = .ok i

/-- A few words written out from the spec's encodings decode to the instructions they stand for (R66 to R69, R76; the
words are those of 95_test_vectors.md). -/
def Obligations.WordsDecodeAsWritten : Prop :=
  decodeTableWord 40 0x1457500001 = some (.setFreqFrame ⟨1, 4, 5, 7, 5, 0, 0, 0⟩) ∧
  decodeTableWord 40 0x0000000003 = some .readFreqMode ∧
  decodeTableWord 40 0x00000000E7 = some .readRxStatus ∧
  decodeTableWord 40 0x00000000F7 = some .readTxStatus ∧
  decodeTableWord 80 0x0806F32CC00000000000 = some (.setFreq (some 14575000)) ∧
  decodeTableWord 80 0x30000000000000000000 = some .getTxStatus ∧
  decodeTableWord 80 0x400000000100000000E7 = some (.rawExchange ⟨0, 0, 0, 0, 0xE7⟩ 1) ∧
  decodeTableWord 80 0x50000000030000000000 = some (.configFraming 3)

/-- Every request word decodes, and its fields are read where R76 puts them: `req_op` at 78:76 selects the operation
(R77), `req_freq_present` at 75, `req_freq` at 74:43, `req_len` at 42:40, the frame at 39:0; unused fields are ignored
(R84). -/
def Obligations.EveryRequestWordDecodes : Prop :=
  ∀ q : BitVec 79, ∃ i, decode (listOfRequestWord q) = .ok i ∧
    hostOpCode (offeredOp i) = q.extractLsb' 76 3 ∧
    (q.extractLsb' 76 3 = 0 → i = .setFreq (if q.getLsbD 75 then some (q.extractLsb' 43 32) else none)) ∧
    (q.extractLsb' 76 3 = 1 → i = .getFreqMode) ∧
    (q.extractLsb' 76 3 = 2 → i = .getRxStatus) ∧
    (q.extractLsb' 76 3 = 3 → i = .getTxStatus) ∧
    (q.extractLsb' 76 3 = 4 → i = .rawExchange (frameOfWord (q.extractLsb' 0 40)) (q.extractLsb' 40 3)) ∧
    (q.extractLsb' 76 3 = 5 → i = .configFraming (q.extractLsb' 40 3)) ∧
    (q.extractLsb' 76 3 = 6 → i = .reserved6) ∧
    (q.extractLsb' 76 3 = 7 → i = .reserved7)

/-- A frame decodes to an instruction exactly when it is that instruction's encoding: no frame has two readings, and no
bit of a decoded frame is dropped (R64 to R70). -/
def Obligations.FrameDecodesExactlyToItsEncoding : Prop :=
  ∀ (f : Bytes5) (i : Instr), decodeFrame f = .ok i ↔ encode i = listOfFrame f

/-- A frame with another opcode, or a read opcode with a payload that is not zero, is no row of the table (R75). -/
def Obligations.OtherFramesAreRejectedByName : Prop :=
  ∀ f : Bytes5,
    (f.b4 ≠ 0x01 → f.b4 ≠ 0x03 → f.b4 ≠ 0xE7 → f.b4 ≠ 0xF7 → decodeFrame f = .error .unknownOpcode) ∧
    ((f.b4 = 0x03 ∨ f.b4 = 0xE7 ∨ f.b4 = 0xF7) → ¬(f.b0 = 0 ∧ f.b1 = 0 ∧ f.b2 = 0 ∧ f.b3 = 0) →
      decodeFrame f = .error .nonzeroPayload)

/-! ### Codec, frame builder and decoders -/

/-- Digits8 (R85): each digit by its formula and 0 to 9, and the eight digits are the decimal form of `f`. -/
def Obligations.Digits8IsTheDecimalForm : Prop :=
  ∀ f : BitVec 32, f.toNat ≤ 99999999 →
    (digits8 f).decimal = true ∧
    (digits8 f).d0.toNat = f.toNat / 10 ^ 7 % 10 ∧ (digits8 f).d1.toNat = f.toNat / 10 ^ 6 % 10 ∧
    (digits8 f).d2.toNat = f.toNat / 10 ^ 5 % 10 ∧ (digits8 f).d3.toNat = f.toNat / 10 ^ 4 % 10 ∧
    (digits8 f).d4.toNat = f.toNat / 10 ^ 3 % 10 ∧ (digits8 f).d5.toNat = f.toNat / 10 ^ 2 % 10 ∧
    (digits8 f).d6.toNat = f.toNat / 10 ^ 1 % 10 ∧ (digits8 f).d7.toNat = f.toNat / 10 ^ 0 % 10 ∧
    decValue [(digits8 f).d0, (digits8 f).d1, (digits8 f).d2, (digits8 f).d3,
              (digits8 f).d4, (digits8 f).d5, (digits8 f).d6, (digits8 f).d7] = f.toNat

/-- BcdPack and BcdUnpack (R86, R87, R88): packing two decimal digits and unpacking gives them back; any other nibble is
FormatError. -/
def Obligations.BcdPackUnpack : Prop :=
  ∀ t u : Nibble,
    (t ≤ 9 ∧ u ≤ 9 → ∃ b, bcdPack t u = some b ∧ b.toNat = 16 * t.toNat + u.toNat ∧ bcdUnpack b = (t, u) ∧ bcdOk b = true) ∧
    (¬(t ≤ 9 ∧ u ≤ 9) → bcdPack t u = none ∧ bcdOk (byteOfNibbles t u) = false)

/-- The frame the builder makes of a frequency (R93) is the encoding of SET_FREQ_FRAME with the frequency's digits (R66,
R70); BcdPack's FormatError is not reached (R87). -/
def Obligations.SetFreqFrameIsItsEncoding : Prop :=
  ∀ f : BitVec 32, f.toNat ≤ 99999999 →
    frameSetFreq f = some (frameOfDigits (digits8 f)) ∧
    encode (.setFreqFrame (digits8 f)) = listOfFrame (frameOfDigits (digits8 f)) ∧
    (Instr.setFreqFrame (digits8 f)).wellFormed = true

/-- The round trip of R116: the set-frequency frame of a valid frequency, decoded as a reply, gives the frequency's
digits and mode id 0x01. -/
def Obligations.FrequencyRoundTrip : Prop :=
  ∀ (ps : Params) (f : BitVec 32) (old : Results), validFreq ps f = true →
    ∃ fr, frameSetFreq f = some fr ∧ freqOk fr = true ∧
      (decodeFreqMode fr old).freqBcd.extractLsb' 28 4 = (digits8 f).d0 ∧
      (decodeFreqMode fr old).freqBcd.extractLsb' 24 4 = (digits8 f).d1 ∧
      (decodeFreqMode fr old).freqBcd.extractLsb' 20 4 = (digits8 f).d2 ∧
      (decodeFreqMode fr old).freqBcd.extractLsb' 16 4 = (digits8 f).d3 ∧
      (decodeFreqMode fr old).freqBcd.extractLsb' 12 4 = (digits8 f).d4 ∧
      (decodeFreqMode fr old).freqBcd.extractLsb' 8 4 = (digits8 f).d5 ∧
      (decodeFreqMode fr old).freqBcd.extractLsb' 4 4 = (digits8 f).d6 ∧
      (decodeFreqMode fr old).freqBcd.extractLsb' 0 4 = (digits8 f).d7 ∧
      (decodeFreqMode fr old).modeId = 0x01

/-- The frequency-and-mode fields of a reply of decimal digits (R103, R104, R105): no value is cut by its register's
width; the mode id is never checked; the status results stay. -/
def Obligations.FreqModeFields : Prop :=
  ∀ (r : Bytes5) (old : Results), freqOk r = true →
    (decodeFreqMode r old).freqBcd = r.b0 ++ r.b1 ++ r.b2 ++ r.b3 ∧
    (decodeFreqMode r old).mhz.toNat = 100 * (r.b0.toNat / 16) + 10 * (r.b0.toNat % 16) + r.b1.toNat / 16 ∧
    (decodeFreqMode r old).khz.toNat = 100 * (r.b1.toNat % 16) + 10 * (r.b2.toNat / 16) + r.b2.toNat % 16 ∧
    (decodeFreqMode r old).hz.toNat = 10 * (r.b3.toNat / 16) + r.b3.toNat % 16 ∧
    (decodeFreqMode r old).mhz.toNat ≤ 999 ∧ (decodeFreqMode r old).khz.toNat ≤ 999 ∧
    (decodeFreqMode r old).hz.toNat ≤ 99 ∧
    (decodeFreqMode r old).modeId = r.b4 ∧ (∀ m : Byte, freqOk { r with b4 := m } = true) ∧
    decodeFreqMode r old =
      { old with freqBcd := (decodeFreqMode r old).freqBcd, mhz := (decodeFreqMode r old).mhz,
                 khz := (decodeFreqMode r old).khz, hz := (decodeFreqMode r old).hz,
                 modeId := (decodeFreqMode r old).modeId }

/-- The receiver-status fields of every byte (R106, R107, R108); the other results stay. -/
def Obligations.RxStatusFields : Prop :=
  ∀ (b : Byte) (old : Results), ∃ db : BitVec 6,
    db.toNat = (if b.toNat % 16 ≤ 9 then 0 else (b.toNat % 16 - 9) * 10) ∧
    decodeRxStatus b old =
      { old with squelched := decide (128 ≤ b.toNat), smeter := BitVec.ofNat 4 (b.toNat % 16), sOverDb := db }

/-- The transmitter-status flags of every byte under both polarities (R110, R111, R112, R16); the other results stay. -/
def Obligations.TxStatusFlags : Prop :=
  ∀ (b : Byte) (old : Results),
    decodeTxStatus .setMeansTrue b old = { old with ptt := !b.getLsbD 7, hiswr := b.getLsbD 6, split := b.getLsbD 5 } ∧
    decodeTxStatus .clearMeansTrue b old = { old with ptt := !b.getLsbD 7, hiswr := !b.getLsbD 6, split := !b.getLsbD 5 }

/-- Bits 6 to 4 of the receiver status and bits 4 to 0 of the transmitter status affect no result register (R114). -/
def Obligations.UnusedStatusBitsIgnored : Prop :=
  ∀ (b b' : Byte) (p : TxsPolarity) (old : Results),
    (b &&& 0x8F = b' &&& 0x8F → decodeRxStatus b old = decodeRxStatus b' old) ∧
    (b &&& 0xE0 = b' &&& 0xE0 → decodeTxStatus p b old = decodeTxStatus p b' old)

/-- SmeterText's full table (R109). -/
def Obligations.SmeterTextTable : Prop :=
  (List.range 16).map (fun s => smeterText (BitVec.ofNat 4 s)) =
    ["S0", "S1", "S2", "S3", "S4", "S5", "S6", "S7", "S8", "S9",
     "S9+10dB", "S9+20dB", "S9+30dB", "S9+40dB", "S9+50dB", "S9+60dB"]

/-! ### Reset -/

/-- A reset cycle gives every register its reset value, whatever the state and the other inputs (R167). The model's own
fields (`params`, `sched`, `cycle`) are left open here. -/
def Obligations.ResetCycleSetsEveryRegister : Prop :=
  ∀ s : State, s.pins.rst = true →
    ∃ t : State, step s = .next t ∧
      t =
        { st := if s.pins.chanConfigured then .idle else .cfgErr
          op := .setFreq, txbuf := ⟨0, 0, 0, 0, 0⟩, txIdx := 0, expLen := 0, chunkSize := 1
          rxbuf := ⟨0, 0, 0, 0, 0⟩, rxCnt := 0, tmr := 0, dropCnt := 0, doneQ := false, resOutcome := .none
          res := ⟨0, 0, 0, 0, 0, false, 0, 0, false, false, false⟩
          params := t.params, sched := t.sched, cycle := t.cycle }

/-- `State.reset` is the state a reset cycle with a configured channel leaves (R167, R168). That it is the configured one
of the two is the model's choice (log 7), as are its parameters (log 5, 6), its empty schedule and its count (log 1). -/
def Obligations.ResetStateIsWhatAResetCycleLeaves : Prop :=
  ∀ s : State, s.pins.rst = true → s.pins.chanConfigured = true → s.params = Config.defaultParams →
    ∃ t : State, step s = .next t ∧ State.reset = { t with sched := [], cycle := 0 }

/-- The state after reset, configured (the model's choice of the two, log 7) or not, is sound. -/
def Obligations.ResetStatesAreSound : Prop :=
  State.reset.Sound ∧ ∀ (c : Bool) (ps : Params) (l : List Pins) (n : Nat), (resetRegisters c ps l n).Sound

/-! ### The step -/

/-- In IDLE and CFGERR the step runs the request on the port: when its bytes decode to `i`, the step is `exec i` (R119,
R62). The step adds nothing around `exec`; `exec` moves the schedule and the cycle count on itself. -/
def Obligations.StepRunsTheOfferedRequest : Prop :=
  ∀ (s : State) (i : Instr), s.pins.rst = false → s.st = .idle ∨ s.st = .cfgErr → s.pins.reqValid = true →
    decode (encodeRequest s.pins.req) = .ok i → step s = exec i s

/-- In SENDING the step runs the frame in TXBUF: when its bytes decode to `i`, the step is `exec i`; a frame that is no
row of the table is sent by the same cycle (R75; log 3, 12). -/
def Obligations.StepRunsTheFrameOnTheWire : Prop :=
  ∀ s : State, s.pins.rst = false → s.st = .sending →
    (∀ i, decode (listOfFrame s.txbuf) = .ok i → step s = exec i s) ∧
    (∀ e, decode (listOfFrame s.txbuf) = .error e → step s = quietCycle s)

/-- The model's placing of a table word (log 2, 4): the very next step runs the word's instruction. -/
def Obligations.PlacedWordRunsNext : Prop :=
  ∀ (s : State) (w : Nat) (i : Instr),
    (decodeTableWord 40 w = some i → step (s.withFetchWord 40 w) = exec i (s.withFetchWord 40 w)) ∧
    (decodeTableWord 80 w = some i → step (s.withFetchWord 80 w) = exec i (s.withFetchWord 80 w))

/-! ### Accepts in IDLE -/

/-- SET_FREQ with a valid effective frequency, in IDLE: the exchange of its frame begins, with no reply awaited and
CHUNK_SIZE unchanged (R142, R93, R94, R95, R120, R121).
The clauses on `sched` and `cycle` are the model's own (log 1). -/
def Obligations.SetFreqStartsItsExchange : Prop :=
  ∀ (freq : Option (BitVec 32)) (s : State), s.st = .idle → validFreq s.params (effectiveFreq freq) = true →
    exec (.setFreq freq) s = .next
      { s with
        st := .sending, op := .setFreq, txbuf := frameOfDigits (digits8 (effectiveFreq freq)), txIdx := 0, expLen := 0
        rxbuf := ⟨0, 0, 0, 0, 0⟩, rxCnt := 0, doneQ := false, resOutcome := .none, res := zeroResults
        dropCnt := if s.pins.rxValid then saturatingSucc s.dropCnt else s.dropCnt
        sched := s.sched.tail, cycle := s.cycle + 1 }

/-- SET_FREQ with a frequency above FREQ_MAX or refused by the table, in IDLE: UNREACHABLE_FREQ, code 3, at once; no byte
is offered to the channel in this cycle, and the engine stays in IDLE with TXBUF as it was (R142, R95, R150). -/
def Obligations.UnreachableFrequencyIsRefused : Prop :=
  ∀ (freq : Option (BitVec 32)) (s : State), s.st = .idle →
    ((effectiveFreq freq).toNat > 99999999 ∨ isValidRxFrequency s.params (effectiveFreq freq) = false) →
    resultCode .unreachableFreq = 3 ∧ txValid s = false ∧
    ∃ t : State, exec (.setFreq freq) s = .next t ∧
      t =
        { s with
          op := .setFreq, expLen := 0, rxbuf := ⟨0, 0, 0, 0, 0⟩, rxCnt := 0
          doneQ := true, resOutcome := .unreachableFreq, res := zeroResults
          dropCnt := if s.pins.rxValid then saturatingSucc s.dropCnt else s.dropCnt
          sched := t.sched, cycle := t.cycle }

/-- SET_FREQ with no operand is SET_FREQ 14575000 (R82, R94). -/
def Obligations.DefaultFrequencyIs14575000 : Prop :=
  ∀ s : State, exec (.setFreq none) s = exec (.setFreq (some 14575000)) s

/-- GET_FREQ_MODE, GET_RX_STATUS and GET_TX_STATUS in IDLE: the exchange of the operation's frame begins, awaiting 5, 1
and 1 bytes, which CHUNK_SIZE becomes (R143, R144, R145, R96, R97, R98, R120, R121).
The clauses on `sched` and `cycle` are the model's own (log 1). -/
def Obligations.ReadRequestsStartTheirExchanges : Prop :=
  ∀ s : State, s.st = .idle →
    (exec .getFreqMode s = .next
      { s with
        st := .sending, op := .getFreqMode, txbuf := ⟨0, 0, 0, 0, 0x03⟩, txIdx := 0, expLen := 5, chunkSize := 5
        rxbuf := ⟨0, 0, 0, 0, 0⟩, rxCnt := 0, doneQ := false, resOutcome := .none, res := zeroResults
        dropCnt := if s.pins.rxValid then saturatingSucc s.dropCnt else s.dropCnt
        sched := s.sched.tail, cycle := s.cycle + 1 }) ∧
    (exec .getRxStatus s = .next
      { s with
        st := .sending, op := .getRxStatus, txbuf := ⟨0, 0, 0, 0, 0xE7⟩, txIdx := 0, expLen := 1, chunkSize := 1
        rxbuf := ⟨0, 0, 0, 0, 0⟩, rxCnt := 0, doneQ := false, resOutcome := .none, res := zeroResults
        dropCnt := if s.pins.rxValid then saturatingSucc s.dropCnt else s.dropCnt
        sched := s.sched.tail, cycle := s.cycle + 1 }) ∧
    (exec .getTxStatus s = .next
      { s with
        st := .sending, op := .getTxStatus, txbuf := ⟨0, 0, 0, 0, 0xF7⟩, txIdx := 0, expLen := 1, chunkSize := 1
        rxbuf := ⟨0, 0, 0, 0, 0⟩, rxCnt := 0, doneQ := false, resOutcome := .none, res := zeroResults
        dropCnt := if s.pins.rxValid then saturatingSucc s.dropCnt else s.dropCnt
        sched := s.sched.tail, cycle := s.cycle + 1 })

/-- RAW_EXCHANGE in IDLE: with a length 0 to 5 the exchange of the given frame begins (CHUNK_SIZE becomes the length unless
it is 0); with 6 or 7 it is REQ_INVALID at once (R146, R80, R121).
The clauses on `sched` and `cycle` are the model's own (log 1). -/
def Obligations.RawExchangeStartsOrIsInvalid : Prop :=
  ∀ (frame : Bytes5) (len : BitVec 3) (s : State), s.st = .idle →
    (len ≤ 5 → exec (.rawExchange frame len) s = .next
      { s with
        st := .sending, op := .rawExchange, txbuf := frame, txIdx := 0, expLen := len
        chunkSize := if len = 0 then s.chunkSize else len
        rxbuf := ⟨0, 0, 0, 0, 0⟩, rxCnt := 0, doneQ := false, resOutcome := .none, res := zeroResults
        dropCnt := if s.pins.rxValid then saturatingSucc s.dropCnt else s.dropCnt
        sched := s.sched.tail, cycle := s.cycle + 1 }) ∧
    (len > 5 → exec (.rawExchange frame len) s = .next
      { s with
        op := .rawExchange, expLen := 0, rxbuf := ⟨0, 0, 0, 0, 0⟩, rxCnt := 0
        doneQ := true, resOutcome := .reqInvalid, res := zeroResults
        dropCnt := if s.pins.rxValid then saturatingSucc s.dropCnt else s.dropCnt
        sched := s.sched.tail, cycle := s.cycle + 1 })

/-- CONFIG_FRAMING in IDLE: a length 1 to 5 becomes CHUNK_SIZE with outcome OK; 0, 6 and 7 are REQ_INVALID and leave it
(R147, R80).
The clauses on `sched` and `cycle` are the model's own (log 1). -/
def Obligations.ConfigFramingSetsOrIsInvalid : Prop :=
  ∀ (len : BitVec 3) (s : State), s.st = .idle →
    (1 ≤ len ∧ len ≤ 5 → exec (.configFraming len) s = .next
      { s with
        op := .configFraming, expLen := 0, chunkSize := len, rxbuf := ⟨0, 0, 0, 0, 0⟩, rxCnt := 0
        doneQ := true, resOutcome := .ok, res := zeroResults
        dropCnt := if s.pins.rxValid then saturatingSucc s.dropCnt else s.dropCnt
        sched := s.sched.tail, cycle := s.cycle + 1 }) ∧
    (len = 0 ∨ 5 < len → exec (.configFraming len) s = .next
      { s with
        op := .configFraming, expLen := 0, rxbuf := ⟨0, 0, 0, 0, 0⟩, rxCnt := 0
        doneQ := true, resOutcome := .reqInvalid, res := zeroResults
        dropCnt := if s.pins.rxValid then saturatingSucc s.dropCnt else s.dropCnt
        sched := s.sched.tail, cycle := s.cycle + 1 })

/-- The reserved codes 6 and 7 in IDLE: REQ_INVALID at once, and no register changes but the common accept part, EXP_LEN
and the completion (R148, R78).
The clauses on `sched` and `cycle` are the model's own (log 1). -/
def Obligations.ReservedCodesAreInvalid : Prop :=
  ∀ s : State, s.st = .idle →
    (exec .reserved6 s = .next
      { s with
        op := .reserved6, expLen := 0, rxbuf := ⟨0, 0, 0, 0, 0⟩, rxCnt := 0
        doneQ := true, resOutcome := .reqInvalid, res := zeroResults
        dropCnt := if s.pins.rxValid then saturatingSucc s.dropCnt else s.dropCnt
        sched := s.sched.tail, cycle := s.cycle + 1 }) ∧
    (exec .reserved7 s = .next
      { s with
        op := .reserved7, expLen := 0, rxbuf := ⟨0, 0, 0, 0, 0⟩, rxCnt := 0
        doneQ := true, resOutcome := .reqInvalid, res := zeroResults
        dropCnt := if s.pins.rxValid then saturatingSucc s.dropCnt else s.dropCnt
        sched := s.sched.tail, cycle := s.cycle + 1 })

/-- A bare wire frame in IDLE enters as RAW_EXCHANGE with the frame and its own reply length, 0, 5, 1 and 1 (R74, R75, R146).
That a bare frame enters this way is the model's reading (log 3). -/
def Obligations.BareFramesEnterAsRawExchange : Prop :=
  ∀ (ds : Digits) (s : State), s.st = .idle →
    (∃ t, exec (.setFreqFrame ds) s = .next t ∧ t.st = .sending ∧ t.txbuf = frameOfDigits ds ∧ t.expLen = 0) ∧
    (∃ t, exec .readFreqMode s = .next t ∧ t.st = .sending ∧ t.txbuf = ⟨0, 0, 0, 0, 0x03⟩ ∧ t.expLen = 5) ∧
    (∃ t, exec .readRxStatus s = .next t ∧ t.st = .sending ∧ t.txbuf = ⟨0, 0, 0, 0, 0xE7⟩ ∧ t.expLen = 1) ∧
    (∃ t, exec .readTxStatus s = .next t ∧ t.st = .sending ∧ t.txbuf = ⟨0, 0, 0, 0, 0xF7⟩ ∧ t.expLen = 1) ∧
    exec (.setFreqFrame ds) s = exec (.rawExchange (frameOfDigits ds) 0) s ∧
    exec .readFreqMode s = exec (.rawExchange ⟨0, 0, 0, 0, 0x03⟩ 5) s ∧
    exec .readRxStatus s = exec (.rawExchange ⟨0, 0, 0, 0, 0xE7⟩ 1) s ∧
    exec .readTxStatus s = exec (.rawExchange ⟨0, 0, 0, 0, 0xF7⟩ 1) s

/-! ### Requests outside IDLE -/

/-- In CFGERR every request is accepted and completes with CONFIG_ERROR; the engine stays in CFGERR and sends nothing
(R134, R153). A bare frame is offered as RAW_EXCHANGE there (log 3).
The clauses on `sched` and `cycle` are the model's own (log 1). -/
def Obligations.CfgErrAnswersConfigError : Prop :=
  ∀ (i : Instr) (s : State), s.st = .cfgErr →
    exec i s = .next
      { s with
        op := offeredOp i, expLen := 0, rxbuf := ⟨0, 0, 0, 0, 0⟩, rxCnt := 0
        doneQ := true, resOutcome := .configError, res := zeroResults
        dropCnt := if s.pins.rxValid then saturatingSucc s.dropCnt else s.dropCnt
        sched := s.sched.tail, cycle := s.cycle + 1 }

/-- In any state but IDLE and CFGERR the signals of the request port change nothing: no request is taken, none is queued
(R119, R62, R174). -/
def Obligations.BusyEngineIgnoresTheRequestPort : Prop :=
  ∀ (s : State) (p : Pins) (rest : List Pins) (v : Bool) (r : Request),
    s.sched = p :: rest → s.st ≠ .idle → s.st ≠ .cfgErr →
    step s = step { s with sched := { p with reqValid := v, req := r } :: rest }

/-- With no request offered, IDLE and CFGERR keep every register but the pulse, which ends, and the drop counter: results
hold until the next accept (R117, R136, R127).
The clauses on `sched` and `cycle` are the model's own (log 1). -/
def Obligations.RestKeepsTheResults : Prop :=
  ∀ s : State, s.pins.rst = false → s.st = .idle ∨ s.st = .cfgErr → s.pins.reqValid = false →
    step s = .next
      { s with
        doneQ := false
        dropCnt := if s.pins.rxValid then saturatingSucc s.dropCnt else s.dropCnt
        sched := s.sched.tail, cycle := s.cycle + 1 }

/-! ### Sending -/

/-- A wire frame in TXBUF, in SENDING: the four frames' own cycle. Held while the channel is not ready (R122); the next
byte (R123); after the last byte SENT if no reply is awaited (R124), else AWAITING with the timer at 0 (R125). Everything
else is as `sendingAfter` says. That the frames' rows are
executed by being sent is the model's reading (log 3); `sched` and `cycle` are its own (log 1). -/
def Obligations.WireFrameIsSentByteByByte : Prop :=
  ∀ (i : Instr) (s : State), s.st = .sending → s.txIdx ≤ 4 → encode i = listOfFrame s.txbuf →
    (s.pins.txReady = false → exec i s = .next (sendingAfter s)) ∧
    (s.pins.txReady = true → s.txIdx < 4 → exec i s = .next { sendingAfter s with txIdx := s.txIdx + 1 }) ∧
    (s.pins.txReady = true → s.txIdx = 4 → s.expLen = 0 →
      exec i s = .next { sendingAfter s with st := .idle, resOutcome := .sent, doneQ := true }) ∧
    (s.pins.txReady = true → s.txIdx = 4 → 1 ≤ s.expLen →
      exec i s = .next { sendingAfter s with st := .awaiting, tmr := 0 })

/-- Any frame in TXBUF, of the table or not, is sent by the same cycle (R122, R123, R124, R125, R75).
`sched` and `cycle`, in `sendingAfter`, are the model's own (log 1). -/
def Obligations.EveryFrameIsSentByteByByte : Prop :=
  ∀ s : State, s.pins.rst = false → s.st = .sending →
    (s.pins.txReady = false → step s = .next (sendingAfter s)) ∧
    (s.pins.txReady = true → s.txIdx < 4 → step s = .next { sendingAfter s with txIdx := s.txIdx + 1 }) ∧
    (s.pins.txReady = true → s.txIdx = 4 → s.expLen = 0 →
      step s = .next { sendingAfter s with st := .idle, resOutcome := .sent, doneQ := true }) ∧
    (s.pins.txReady = true → s.txIdx = 4 → 1 ≤ s.expLen →
      step s = .next { sendingAfter s with st := .awaiting, tmr := 0 })

/-- The five bytes of a frame go out in index order, one a cycle while the channel is ready: in the k-th cycle of SENDING
the channel takes byte k of TXBUF (R123, R51, R25). -/
def Obligations.FrameGoesOutInIndexOrder : Prop :=
  ∀ (s : State) (k : Nat), k ≤ 4 → s.st = .sending → s.txIdx = 0 → k < s.sched.length →
    (∀ p ∈ s.sched.take (k + 1), p.rst = false ∧ p.txReady = true) →
    ∃ t, Host.Core.run Sys2Proof.core k s = .next t ∧ byteSent t = byteAt s.txbuf (BitVec.ofNat 3 k)

/-- A byte is sent only in SENDING, in a cycle without reset, when the channel takes it (R25, R45). -/
def Obligations.NothingIsSentOutsideSending : Prop :=
  ∀ (s : State) (b : Byte), byteSent s = some b → s.st = .sending ∧ s.pins.rst = false ∧ s.pins.txReady = true

/-! ### Receiving and waiting -/

/-- Collect (R126): in SENDING, or in AWAITING before the timeout, a byte that arrives while the reply is short of EXP_LEN
is stored at index RX_CNT, the other bytes stay, RX_CNT counts it, and DROP_CNT stays. -/
def Obligations.ReplyByteIsCollected : Prop :=
  ∀ s : State, s.pins.rst = false → s.pins.rxValid = true →
    s.st = .sending ∨ (s.st = .awaiting ∧ s.tmr < 1001) → s.rxCnt < s.expLen → s.rxCnt < 5 →
    ∃ t, step s = .next t ∧ byteAt t.rxbuf s.rxCnt = some s.pins.rxData ∧
      (∀ j, j ≠ s.rxCnt → byteAt t.rxbuf j = byteAt s.rxbuf j) ∧ t.rxCnt = s.rxCnt + 1 ∧ t.dropCnt = s.dropCnt

/-- Drop (R127): in a cycle without reset, a byte that is not collected adds one to DROP_CNT, which saturates at 0xFFFF; a
cycle that drops no byte leaves DROP_CNT. -/
def Obligations.UncollectedByteIsCounted : Prop :=
  ∀ s t : State, s.pins.rst = false → step s = .next t →
    (s.pins.rxValid = true →
      ¬((s.st = .sending ∨ (s.st = .awaiting ∧ s.tmr < 1001)) ∧ s.rxCnt < s.expLen) →
      t.dropCnt.toNat = min (s.dropCnt.toNat + 1) 65535) ∧
    (s.pins.rxValid = false → t.dropCnt = s.dropCnt)

/-- The timer (R129): it counts a tick in AWAITING below 1001, is set to 0 by reset and by the last sent byte of a frame
that awaits a reply (R125), and stays in every other cycle. -/
def Obligations.TimerCountsOnlyInAwaiting : Prop :=
  ∀ s t : State, step s = .next t →
    t.tmr =
      if s.pins.rst = true then 0
      else if s.st = .awaiting ∧ s.pins.tick = true ∧ s.tmr < 1001 then s.tmr + 1
      else if s.st = .sending ∧ s.pins.txReady = true ∧ s.txIdx = 4 ∧ 1 ≤ s.expLen then 0
      else s.tmr

/-- The race in AWAITING (R128, R130, R131): a complete reply wins, also on a tie; else the timeout; else the engine
waits. The registers the race does not concern stay. -/
def Obligations.ReplyWinsTheRace : Prop :=
  ∀ s : State, s.pins.rst = false → s.st = .awaiting →
    ∃ t, step s = .next t ∧
      (s.rxCnt = s.expLen → t.st = .replied) ∧
      (s.rxCnt < s.expLen → s.tmr = 1001 → t.st = .timedOut) ∧
      (s.rxCnt < s.expLen → s.tmr ≠ 1001 → t.st = .awaiting) ∧
      t.op = s.op ∧ t.txbuf = s.txbuf ∧ t.txIdx = s.txIdx ∧ t.expLen = s.expLen ∧ t.chunkSize = s.chunkSize ∧
      t.doneQ = false ∧ t.resOutcome = s.resOutcome ∧ t.res = s.res

/-! ### Completions -/

/-- The completion of GET_FREQ_MODE in REPLIED (R143, R102 to R105): the decoded results with OK, or FORMAT_ERROR with the
results as they were; the reply stays in RXBUF.
The clauses on `sched` and `cycle` are the model's own (log 1). -/
def Obligations.GetFreqModeCompletes : Prop :=
  ∀ s : State, s.pins.rst = false → s.st = .replied → s.op = .getFreqMode →
    step s = .next
      { s with
        st := .idle, doneQ := true
        resOutcome := if freqOk s.rxbuf then .ok else .formatError
        res := if freqOk s.rxbuf then decodeFreqMode s.rxbuf s.res else s.res
        dropCnt := if s.pins.rxValid then saturatingSucc s.dropCnt else s.dropCnt
        sched := s.sched.tail, cycle := s.cycle + 1 }

/-- The completion of GET_RX_STATUS in REPLIED (R144, R106 to R108): OK for every byte.
The clauses on `sched` and `cycle` are the model's own (log 1). -/
def Obligations.GetRxStatusCompletes : Prop :=
  ∀ s : State, s.pins.rst = false → s.st = .replied → s.op = .getRxStatus →
    step s = .next
      { s with
        st := .idle, doneQ := true, resOutcome := .ok, res := decodeRxStatus s.rxbuf.b0 s.res
        dropCnt := if s.pins.rxValid then saturatingSucc s.dropCnt else s.dropCnt
        sched := s.sched.tail, cycle := s.cycle + 1 }

/-- The completion of GET_TX_STATUS in REPLIED (R145, R110 to R112), under the run's polarity (R16): OK for every byte.
The clauses on `sched` and `cycle` are the model's own (log 1). -/
def Obligations.GetTxStatusCompletes : Prop :=
  ∀ s : State, s.pins.rst = false → s.st = .replied → s.op = .getTxStatus →
    step s = .next
      { s with
        st := .idle, doneQ := true, resOutcome := .ok
        res := decodeTxStatus s.params.txsPolarity s.rxbuf.b0 s.res
        dropCnt := if s.pins.rxValid then saturatingSucc s.dropCnt else s.dropCnt
        sched := s.sched.tail, cycle := s.cycle + 1 }

/-- The completion of RAW_EXCHANGE in REPLIED (R146): OK, and nothing is decoded.
The clauses on `sched` and `cycle` are the model's own (log 1). -/
def Obligations.RawExchangeCompletes : Prop :=
  ∀ s : State, s.pins.rst = false → s.st = .replied → s.op = .rawExchange →
    step s = .next
      { s with
        st := .idle, doneQ := true, resOutcome := .ok
        dropCnt := if s.pins.rxValid then saturatingSucc s.dropCnt else s.dropCnt
        sched := s.sched.tail, cycle := s.cycle + 1 }

/-- The completion in TIMEDOUT (R133): RXBUF and RX_CNT cleared, LINK_TIMEOUT. -/
def Obligations.TimeoutCompletes : Prop :=
  ∀ s : State, s.pins.rst = false → s.st = .timedOut →
    ∃ t : State, step s = .next t ∧
      t =
        { s with
          st := .idle, rxbuf := ⟨0, 0, 0, 0, 0⟩, rxCnt := 0, doneQ := true, resOutcome := .linkTimeout
          dropCnt := if s.pins.rxValid then saturatingSucc s.dropCnt else s.dropCnt
          sched := t.sched, cycle := t.cycle }

/-! ### Whole-machine rules -/

/-- Every step keeps the soundness of the state: the invariants of R49, with the operation's length (R100, R132), the
chunk size at a timeout (R137), the pulse (R136) and the cleared results (R120). -/
def Obligations.StepKeepsSound : Prop :=
  ∀ s t : State, s.Sound → step s = .next t → t.Sound

/-- From a sound state no run, of any length and with any inputs, faults or refuses: no rule of the engine traps (R149,
R83), and the unreachable states are not reached (R138, R87, R132). -/
def Obligations.SoundRunsNeverStop : Prop :=
  ∀ (s : State) (k : Nat), s.Sound → ∃ t : State, Host.Core.run Sys2Proof.core k s = .next t ∧ t.Sound

/-- ST 6 and 7 fault in a cycle without reset (R138). -/
def Obligations.UnusedStatesFault : Prop :=
  ∀ s : State, s.pins.rst = false → s.st = .unused6 ∨ s.st = .unused7 → step s = .fault .unreachableState

/-- The run's parameters never change: IsValidRxFrequency is "fixed for the whole run" (R14), and so is the polarity
(R46). -/
def Obligations.ParametersAreFixedForTheRun : Prop :=
  ∀ s t : State, step s = .next t → t.params = s.params

/-- Each outcome arises from its cause only (R150 to R154, R157, R124, R132, R133). -/
def Obligations.EachOutcomeHasItsCause : Prop :=
  ∀ s t : State, s.pins.rst = false → step s = .next t → t.doneQ = true →
    match t.resOutcome with
    | .ok =>
      (s.st = .replied ∧ ((s.op = .getFreqMode ∧ freqOk s.rxbuf = true) ∨ s.op = .getRxStatus ∨ s.op = .getTxStatus ∨
        s.op = .rawExchange)) ∨
      (s.st = .idle ∧ s.pins.reqValid = true ∧ s.pins.req.op = 5 ∧ 1 ≤ s.pins.req.len ∧ s.pins.req.len ≤ 5)
    | .sent => s.st = .sending ∧ s.pins.txReady = true ∧ s.txIdx = 4 ∧ s.expLen = 0
    | .linkTimeout => s.st = .timedOut
    | .unreachableFreq =>
      s.st = .idle ∧ s.pins.reqValid = true ∧ s.pins.req.op = 0 ∧
        validFreq s.params (if s.pins.req.freqPresent then s.pins.req.freq else 14575000) = false
    | .formatError => s.st = .replied ∧ s.op = .getFreqMode ∧ freqOk s.rxbuf = false
    | .configError => s.st = .cfgErr ∧ s.pins.reqValid = true
    | .reqInvalid =>
      s.st = .idle ∧ s.pins.reqValid = true ∧
        (s.pins.req.op = 6 ∨ s.pins.req.op = 7 ∨ (s.pins.req.op = 4 ∧ 5 < s.pins.req.len) ∨
          (s.pins.req.op = 5 ∧ (s.pins.req.len = 0 ∨ 5 < s.pins.req.len)))
    | .none => False

/-- What each outcome records, in the cycle after the completion (R156): the registers behind `res_op`, `res_len`,
`res_raw` and the decoded results. -/
def Obligations.CompletionRecords : Prop :=
  ∀ s t : State, s.Sound → s.pins.rst = false → step s = .next t → t.doneQ = true →
    match t.resOutcome with
    | .ok =>
      (t.op = .getFreqMode ∧ t.expLen = 5 ∧ t.rxbuf = s.rxbuf ∧ t.res = decodeFreqMode s.rxbuf zeroResults) ∨
      (t.op = .getRxStatus ∧ t.expLen = 1 ∧ t.rxbuf = ⟨s.rxbuf.b0, 0, 0, 0, 0⟩ ∧
        t.res = decodeRxStatus s.rxbuf.b0 zeroResults) ∨
      (t.op = .getTxStatus ∧ t.expLen = 1 ∧ t.rxbuf = ⟨s.rxbuf.b0, 0, 0, 0, 0⟩ ∧
        t.res = decodeTxStatus s.params.txsPolarity s.rxbuf.b0 zeroResults) ∨
      (t.op = .rawExchange ∧ t.expLen = s.expLen ∧ t.rxbuf = s.rxbuf ∧ tailZero t.rxbuf t.expLen = true ∧
        t.res = zeroResults) ∨
      (t.op = .configFraming ∧ t.expLen = 0 ∧ t.rxbuf = zeroBytes ∧ t.res = zeroResults)
    | .sent =>
      (t.op = .setFreq ∨ t.op = .rawExchange) ∧ t.expLen = 0 ∧ t.rxbuf = zeroBytes ∧ t.res = zeroResults
    | .linkTimeout =>
      (t.op = .getFreqMode ∨ t.op = .getRxStatus ∨ t.op = .getTxStatus ∨ t.op = .rawExchange) ∧
        t.expLen = s.expLen ∧ lengthFits t.op t.expLen = true ∧ t.rxbuf = zeroBytes ∧ t.res = zeroResults
    | .unreachableFreq => t.op = .setFreq ∧ t.expLen = 0 ∧ t.rxbuf = zeroBytes ∧ t.res = zeroResults
    | .formatError => t.op = .getFreqMode ∧ t.expLen = 5 ∧ t.rxbuf = s.rxbuf ∧ t.res = zeroResults
    | .configError =>
      hostOpCode t.op = s.pins.req.op ∧ t.expLen = 0 ∧ t.rxbuf = zeroBytes ∧ t.res = zeroResults
    | .reqInvalid =>
      hostOpCode t.op = s.pins.req.op ∧ t.expLen = 0 ∧ t.rxbuf = zeroBytes ∧ t.res = zeroResults
    | .none => False

/-- The transitions of the state machine, row by row (R117): the reset row; in IDLE an accept that starts an exchange, one
that completes at once, or no accept; the rows of SENDING and AWAITING with their conditions; the completions. From ST 6
and 7 there is no next state. -/
def Obligations.TransitionsOfTheStateMachine : Prop :=
  ∀ s t : State, step s = .next t →
    if s.pins.rst = true then t.st = if s.pins.chanConfigured = true then .idle else .cfgErr
    else
      match s.st with
      | .idle =>
        if s.pins.reqValid = true ∧ startsExchange s.params s.pins.req = true then t.st = .sending ∧ t.doneQ = false
        else t.st = .idle ∧ t.doneQ = s.pins.reqValid
      | .sending =>
        if s.pins.txReady = true ∧ s.txIdx = 4 ∧ s.expLen = 0 then t.st = .idle ∧ t.doneQ = true ∧ t.resOutcome = .sent
        else if s.pins.txReady = true ∧ s.txIdx = 4 then t.st = .awaiting ∧ t.doneQ = false
        else t.st = .sending ∧ t.doneQ = false
      | .awaiting =>
        (t.st = if s.rxCnt = s.expLen then .replied
                else if s.rxCnt < s.expLen ∧ s.tmr = 1001 then .timedOut else .awaiting) ∧ t.doneQ = false
      | .replied => t.st = .idle ∧ t.doneQ = true ∧ (t.resOutcome = .ok ∨ t.resOutcome = .formatError)
      | .timedOut => t.st = .idle ∧ t.doneQ = true ∧ t.resOutcome = .linkTimeout
      | .cfgErr =>
        t.st = .cfgErr ∧ t.doneQ = s.pins.reqValid ∧ (s.pins.reqValid = true → t.resOutcome = .configError)
      | .unused6 => False
      | .unused7 => False

/-- CHUNK_SIZE changes only in IDLE and at reset, and after a completion of an exchange that awaits a reply it is that
exchange's EXP_LEN (R137). -/
def Obligations.ChunkSizeIsConsistent : Prop :=
  ∀ s t : State, step s = .next t →
    (s.st ≠ .idle → s.pins.rst = false → t.chunkSize = s.chunkSize) ∧
    (s.Sound → s.pins.rst = false → inExchange s.st = true → 1 ≤ s.expLen → t.doneQ = true →
      t.chunkSize = t.expLen ∧ t.expLen = s.expLen)

/-- During an exchange, without reset, the operation, the frame and the expected length stay (R31, R32, R34, R62, R99). -/
def Obligations.ExchangeKeepsItsRequest : Prop :=
  ∀ s t : State, s.pins.rst = false → inExchange s.st = true → step s = .next t →
    t.op = s.op ∧ t.txbuf = s.txbuf ∧ t.expLen = s.expLen

/-- The combinational outputs (R45). -/
def Obligations.OutputsFollowTheRegisters : Prop :=
  ∀ s : State,
    s.outputs.reqReady = (!s.pins.rst && (decide (s.st = .idle) || decide (s.st = .cfgErr))) ∧
    s.outputs.busy = (decide (s.st ≠ .idle) && decide (s.st ≠ .cfgErr)) ∧
    s.outputs.txValid = (!s.pins.rst && decide (s.st = .sending)) ∧
    (s.st = .sending → s.txIdx ≤ 4 → byteAt s.txbuf s.txIdx = some s.outputs.txData) ∧
    (s.st ≠ .sending → s.outputs.txData = 0) ∧
    (s.st = .idle ∧ s.pins.req.op = 0 →
      s.outputs.vfFreq = if s.pins.req.freqPresent then s.pins.req.freq else 14575000) ∧
    (¬(s.st = .idle ∧ s.pins.req.op = 0) → s.outputs.vfFreq = 0)

/-! ### Exchanges from end to end -/

/-- The timeout (R129, R130, R133, R184): in AWAITING with the reply short, no byte arriving and no reset, over any cycles
`l` with as many ticks as bring TMR to 1000 and one more cycle `p` with a tick, the engine is in AWAITING before each of
them and after them, and two cycles later LINK_TIMEOUT is reported. -/
def Obligations.TimeoutComesWithTick1001 : Prop :=
  ∀ (s : State) (l : List Pins) (p q1 q2 : Pins) (rest : List Pins),
    s.st = .awaiting → s.rxCnt < s.expLen → s.sched = l ++ p :: q1 :: q2 :: rest →
    (∀ x ∈ l ++ [p, q1, q2], x.rst = false ∧ x.rxValid = false) →
    s.tmr.toNat + l.countP (·.tick) = 1000 → p.tick = true →
    (∀ k ≤ l.length + 1, ∃ t : State, Host.Core.run Sys2Proof.core k s = .next t ∧ t.st = .awaiting) ∧
    ∃ t : State, Host.Core.run Sys2Proof.core (l.length + 3) s = .next t ∧
      t.st = .idle ∧ t.doneQ = true ∧ t.resOutcome = .linkTimeout ∧ t.rxbuf = zeroBytes ∧ t.rxCnt = 0 ∧
      t.expLen = s.expLen ∧ t.dropCnt = s.dropCnt

/-- A GET_RX_STATUS exchange from end to end (R144, R183): accepted in IDLE, five ready cycles, the reply byte in the first
AWAITING cycle; after nine cycles the decoded status is reported with OK, whatever the ticks and the other inputs. -/
def Obligations.RxStatusExchangeDecodesTheReply : Prop :=
  ∀ (s : State) (p0 p1 p2 p3 p4 p5 p6 p7 p8 : Pins) (rest : List Pins),
    s.st = .idle → s.sched = p0 :: p1 :: p2 :: p3 :: p4 :: p5 :: p6 :: p7 :: p8 :: rest →
    (∀ p ∈ [p0, p1, p2, p3, p4, p5, p6, p7, p8], p.rst = false) →
    p0.reqValid = true → p0.req.op = 2 →
    (∀ p ∈ [p1, p2, p3, p4, p5], p.txReady = true ∧ p.rxValid = false) → p6.rxValid = true →
    ∃ t : State, Host.Core.run Sys2Proof.core 9 s = .next t ∧
      t.st = .idle ∧ t.doneQ = true ∧ t.resOutcome = .ok ∧ t.op = .getRxStatus ∧ t.expLen = 1 ∧ t.chunkSize = 1 ∧
      t.txbuf = ⟨0, 0, 0, 0, 0xE7⟩ ∧ t.rxbuf = ⟨p6.rxData, 0, 0, 0, 0⟩ ∧
      t.res = decodeRxStatus p6.rxData zeroResults

/-- A SET_FREQ exchange from end to end (R142, R124, R183): accepted in IDLE with a valid frequency, five ready cycles;
after six cycles SENT is reported, and no byte received meanwhile is stored. -/
def Obligations.SetFreqExchangeEndsInSent : Prop :=
  ∀ (s : State) (p0 p1 p2 p3 p4 p5 : Pins) (rest : List Pins),
    s.st = .idle → s.sched = p0 :: p1 :: p2 :: p3 :: p4 :: p5 :: rest →
    (∀ p ∈ [p0, p1, p2, p3, p4, p5], p.rst = false) →
    p0.reqValid = true → p0.req.op = 0 → p0.req.freqPresent = true → validFreq s.params p0.req.freq = true →
    (∀ p ∈ [p1, p2, p3, p4, p5], p.txReady = true) →
    ∃ t : State, Host.Core.run Sys2Proof.core 6 s = .next t ∧
      t.st = .idle ∧ t.doneQ = true ∧ t.resOutcome = .sent ∧ t.op = .setFreq ∧
      t.txbuf = frameOfDigits (digits8 p0.req.freq) ∧ t.rxbuf = zeroBytes ∧ t.rxCnt = 0 ∧
      t.chunkSize = s.chunkSize ∧ t.res = zeroResults
end

