-- ==== Sys2Proof/Laws/Codec.lean ====
section
/-! SUPPORT. The bit layouts of frame and request words, and the nibbles and digits of the codec, each said once. -/

namespace Sys2Proof

/-- The bits of a frame word (R18, R65). -/
theorem getLsbD_wordOfFrame (f : Bytes5) (i : Nat) :
    (wordOfFrame f).getLsbD i =
      if i < 8 then f.b4.getLsbD i
      else if i < 16 then f.b3.getLsbD (i - 8)
      else if i < 24 then f.b2.getLsbD (i - 16)
      else if i < 32 then f.b1.getLsbD (i - 24)
      else f.b0.getLsbD (i - 32) := by
  unfold wordOfFrame
  change BitVec.getLsbD (w := 8 + 8 + 8 + 8 + 8) _ i = _
  simp only [BitVec.getLsbD_append, Nat.sub_sub]
  norm_num
  split_ifs <;> first | rfl | omega

/-- The bits of a request word (R76). -/
theorem getLsbD_wordOfRequest (r : Request) (i : Nat) :
    (wordOfRequest r).getLsbD i =
      if i < 40 then (wordOfFrame r.frame).getLsbD i
      else if i < 43 then r.len.getLsbD (i - 40)
      else if i < 75 then r.freq.getLsbD (i - 43)
      else if i < 76 then r.freqPresent
      else r.op.getLsbD (i - 76) := by
  unfold wordOfRequest
  change BitVec.getLsbD (w := 3 + 1 + 32 + 3 + 40) _ i = _
  simp only [BitVec.getLsbD_append, Nat.sub_sub]
  norm_num
  split_ifs <;> first | rfl | omega | skip
  all_goals (have : i = 75 := by omega); subst this; simp

/-- A frame is read back from its word. -/
theorem frameOfWord_wordOfFrame (f : Bytes5) : frameOfWord (wordOfFrame f) = f := by
  obtain ⟨b0, b1, b2, b3, b4⟩ := f
  simp only [frameOfWord, Bytes5.mk.injEq]
  refine ⟨?_, ?_, ?_, ?_, ?_⟩ <;> apply BitVec.eq_of_getLsbD_eq <;> intro i hi <;>
    simp only [BitVec.getLsbD_extractLsb', getLsbD_wordOfFrame, hi, decide_true, Bool.true_and] <;>
    split_ifs <;> first | omega | (congr 1; omega)

/-- The request fields are read back from their word. -/
theorem requestOfWord_wordOfRequest (r : Request) : requestOfWord (wordOfRequest r) = r := by
  obtain ⟨op, fp, fr, len, frame⟩ := r
  simp only [requestOfWord, Request.mk.injEq]
  have h : (wordOfRequest ⟨op, fp, fr, len, frame⟩).extractLsb' 0 40 = wordOfFrame frame := by
    apply BitVec.eq_of_getLsbD_eq
    intro i hi
    simp [getLsbD_wordOfRequest, hi]
  refine ⟨?_, ?_, ?_, ?_, by rw [h, frameOfWord_wordOfFrame]⟩
  · apply BitVec.eq_of_getLsbD_eq; intro i hi
    simp only [BitVec.getLsbD_extractLsb', getLsbD_wordOfRequest, hi, decide_true, Bool.true_and]
    split_ifs <;> first | omega | (congr 1; omega)
  · rw [getLsbD_wordOfRequest]
    norm_num
  · apply BitVec.eq_of_getLsbD_eq; intro i hi
    simp only [BitVec.getLsbD_extractLsb', getLsbD_wordOfRequest, hi, decide_true, Bool.true_and]
    split_ifs <;> first | omega | (congr 1; omega)
  · apply BitVec.eq_of_getLsbD_eq; intro i hi
    simp only [BitVec.getLsbD_extractLsb', getLsbD_wordOfRequest, hi, decide_true, Bool.true_and]
    split_ifs <;> first | omega | (congr 1; omega)

/-- A request word is read back from its ten bytes (log 14). -/
theorem requestWordOfBytes_listOfRequestWord (q : BitVec 79) :
    requestWordOfBytes ⟨q.extractLsb' 72 8, q.extractLsb' 64 8, q.extractLsb' 56 8, q.extractLsb' 48 8, q.extractLsb' 40 8⟩
      ⟨q.extractLsb' 32 8, q.extractLsb' 24 8, q.extractLsb' 16 8, q.extractLsb' 8 8, q.extractLsb' 0 8⟩ = q := by
  unfold requestWordOfBytes
  apply BitVec.eq_of_getLsbD_eq
  intro i hi
  rw [BitVec.getLsbD_extractLsb']
  rw [show ∀ a b : Bytes5, BitVec.getLsbD (wordOfFrame a ++ wordOfFrame b) (0 + i) = if 0 + i < 40 then (wordOfFrame b).getLsbD (0 + i) else (wordOfFrame a).getLsbD (0 + i - 40) from fun a b => BitVec.getLsbD_append]
  simp only [getLsbD_wordOfFrame, BitVec.getLsbD_extractLsb', hi, decide_true, Bool.true_and]
  split_ifs <;> first | omega | (rw [decide_eq_true (by omega), Bool.true_and]; congr 1; omega)

/-- Packing two nibbles and taking them apart again. -/
theorem highNibble_byteOfNibbles (h l : Nibble) : highNibble (byteOfNibbles h l) = h := by
  revert h l
  decide

theorem lowNibble_byteOfNibbles (h l : Nibble) : lowNibble (byteOfNibbles h l) = l := by
  revert h l
  decide

/-- A byte is its two nibbles. -/
theorem byteOfNibbles_nibbles (b : Byte) : byteOfNibbles (highNibble b) (lowNibble b) = b := by
  revert b
  decide

theorem highNibble_toNat (b : Byte) : (highNibble b).toNat = b.toNat / 16 := by
  revert b
  decide

theorem lowNibble_toNat (b : Byte) : (lowNibble b).toNat = b.toNat % 16 := by
  revert b
  decide

/-- The 3-bit codes and the host operations are in one-to-one correspondence (R77). -/
theorem hostOpCode_hostOpOfCode (c : BitVec 3) : hostOpCode (hostOpOfCode c) = c := by
  revert c
  decide

theorem hostOpOfCode_hostOpCode (o : HostOp) : hostOpOfCode (hostOpCode o) = o := by
  cases o <;> rfl

namespace Machine

/-- A digit of Digits8 is its formula (R85). -/
theorem decimalDigit_toNat (f w : Nat) : (decimalDigit f w).toNat = f / w % 10 := by
  unfold decimalDigit
  rw [BitVec.toNat_ofNat]
  omega

/-- A digit of Digits8 is decimal (R85, R87). -/
theorem decimalDigit_le (f w : Nat) : decimalDigit f w ≤ 9 := by
  show (decimalDigit f w).toNat ≤ 9
  rw [decimalDigit_toNat]
  omega

/-- bcd_ok says both nibbles of the byte are decimal (R88). -/
theorem bcdOk_iff (b : Byte) : bcdOk b = true ↔ b.toNat / 16 ≤ 9 ∧ b.toNat % 16 ≤ 9 := by
  revert b
  decide

/-- The bits of RES_FREQ_BCD as decoded from a reply (R103, R55). -/
theorem getLsbD_replyFreqBcd (r : Bytes5) (i : Nat) :
    (replyFreqBcd r).getLsbD i =
      if i < 8 then r.b3.getLsbD i
      else if i < 16 then r.b2.getLsbD (i - 8)
      else if i < 24 then r.b1.getLsbD (i - 16)
      else r.b0.getLsbD (i - 24) := by
  unfold replyFreqBcd
  change BitVec.getLsbD (w := 8 + 8 + 8 + 8) _ i = _
  simp only [BitVec.getLsbD_append, Nat.sub_sub]
  norm_num
  split_ifs <;> first | rfl | omega

end Machine

end Sys2Proof
end

