-- ==== Sys2Proof/Laws/State.lean ====
section
/-! SUPPORT. One lemma per field of State and update of the machine, so that no proof unfolds a record update. -/

namespace Sys2Proof.Machine

@[simp] theorem nextCycle_st (n : State) : (nextCycle n).st = n.st := rfl
@[simp] theorem nextCycle_op (n : State) : (nextCycle n).op = n.op := rfl
@[simp] theorem nextCycle_txbuf (n : State) : (nextCycle n).txbuf = n.txbuf := rfl
@[simp] theorem nextCycle_txIdx (n : State) : (nextCycle n).txIdx = n.txIdx := rfl
@[simp] theorem nextCycle_expLen (n : State) : (nextCycle n).expLen = n.expLen := rfl
@[simp] theorem nextCycle_chunkSize (n : State) : (nextCycle n).chunkSize = n.chunkSize := rfl
@[simp] theorem nextCycle_rxbuf (n : State) : (nextCycle n).rxbuf = n.rxbuf := rfl
@[simp] theorem nextCycle_rxCnt (n : State) : (nextCycle n).rxCnt = n.rxCnt := rfl
@[simp] theorem nextCycle_tmr (n : State) : (nextCycle n).tmr = n.tmr := rfl
@[simp] theorem nextCycle_dropCnt (n : State) : (nextCycle n).dropCnt = n.dropCnt := rfl
@[simp] theorem nextCycle_doneQ (n : State) : (nextCycle n).doneQ = false := rfl
@[simp] theorem nextCycle_resOutcome (n : State) : (nextCycle n).resOutcome = n.resOutcome := rfl
@[simp] theorem nextCycle_res (n : State) : (nextCycle n).res = n.res := rfl
@[simp] theorem nextCycle_params (n : State) : (nextCycle n).params = n.params := rfl
@[simp] theorem nextCycle_sched (n : State) : (nextCycle n).sched = n.sched.tail := rfl
@[simp] theorem nextCycle_cycle (n : State) : (nextCycle n).cycle = n.cycle + 1 := rfl

@[simp] theorem acceptCommon_st (op : HostOp) (n : State) : (acceptCommon op n).st = n.st := rfl
@[simp] theorem acceptCommon_op (op : HostOp) (n : State) : (acceptCommon op n).op = op := rfl
@[simp] theorem acceptCommon_txbuf (op : HostOp) (n : State) : (acceptCommon op n).txbuf = n.txbuf := rfl
@[simp] theorem acceptCommon_txIdx (op : HostOp) (n : State) : (acceptCommon op n).txIdx = n.txIdx := rfl
@[simp] theorem acceptCommon_expLen (op : HostOp) (n : State) : (acceptCommon op n).expLen = n.expLen := rfl
@[simp] theorem acceptCommon_chunkSize (op : HostOp) (n : State) : (acceptCommon op n).chunkSize = n.chunkSize := rfl
@[simp] theorem acceptCommon_rxbuf (op : HostOp) (n : State) : (acceptCommon op n).rxbuf = zeroBytes := rfl
@[simp] theorem acceptCommon_rxCnt (op : HostOp) (n : State) : (acceptCommon op n).rxCnt = 0 := rfl
@[simp] theorem acceptCommon_tmr (op : HostOp) (n : State) : (acceptCommon op n).tmr = n.tmr := rfl
@[simp] theorem acceptCommon_dropCnt (op : HostOp) (n : State) : (acceptCommon op n).dropCnt = n.dropCnt := rfl
@[simp] theorem acceptCommon_doneQ (op : HostOp) (n : State) : (acceptCommon op n).doneQ = n.doneQ := rfl
@[simp] theorem acceptCommon_resOutcome (op : HostOp) (n : State) : (acceptCommon op n).resOutcome = .none := rfl
@[simp] theorem acceptCommon_res (op : HostOp) (n : State) : (acceptCommon op n).res = zeroResults := rfl
@[simp] theorem acceptCommon_params (op : HostOp) (n : State) : (acceptCommon op n).params = n.params := rfl
@[simp] theorem acceptCommon_sched (op : HostOp) (n : State) : (acceptCommon op n).sched = n.sched := rfl
@[simp] theorem acceptCommon_cycle (op : HostOp) (n : State) : (acceptCommon op n).cycle = n.cycle := rfl

@[simp] theorem startExchange_st (f : Bytes5) (len : BitVec 3) (n : State) : (startExchange f len n).st = .sending := rfl
@[simp] theorem startExchange_op (f : Bytes5) (len : BitVec 3) (n : State) : (startExchange f len n).op = n.op := rfl
@[simp] theorem startExchange_txbuf (f : Bytes5) (len : BitVec 3) (n : State) : (startExchange f len n).txbuf = f := rfl
@[simp] theorem startExchange_txIdx (f : Bytes5) (len : BitVec 3) (n : State) : (startExchange f len n).txIdx = 0 := rfl
@[simp] theorem startExchange_expLen (f : Bytes5) (len : BitVec 3) (n : State) : (startExchange f len n).expLen = len := rfl
@[simp] theorem startExchange_chunkSize (f : Bytes5) (len : BitVec 3) (n : State) : (startExchange f len n).chunkSize = if 1 ≤ len then len else n.chunkSize := rfl
@[simp] theorem startExchange_rxbuf (f : Bytes5) (len : BitVec 3) (n : State) : (startExchange f len n).rxbuf = n.rxbuf := rfl
@[simp] theorem startExchange_rxCnt (f : Bytes5) (len : BitVec 3) (n : State) : (startExchange f len n).rxCnt = n.rxCnt := rfl
@[simp] theorem startExchange_tmr (f : Bytes5) (len : BitVec 3) (n : State) : (startExchange f len n).tmr = n.tmr := rfl
@[simp] theorem startExchange_dropCnt (f : Bytes5) (len : BitVec 3) (n : State) : (startExchange f len n).dropCnt = n.dropCnt := rfl
@[simp] theorem startExchange_doneQ (f : Bytes5) (len : BitVec 3) (n : State) : (startExchange f len n).doneQ = n.doneQ := rfl
@[simp] theorem startExchange_resOutcome (f : Bytes5) (len : BitVec 3) (n : State) : (startExchange f len n).resOutcome = n.resOutcome := rfl
@[simp] theorem startExchange_res (f : Bytes5) (len : BitVec 3) (n : State) : (startExchange f len n).res = n.res := rfl
@[simp] theorem startExchange_params (f : Bytes5) (len : BitVec 3) (n : State) : (startExchange f len n).params = n.params := rfl
@[simp] theorem startExchange_sched (f : Bytes5) (len : BitVec 3) (n : State) : (startExchange f len n).sched = n.sched := rfl
@[simp] theorem startExchange_cycle (f : Bytes5) (len : BitVec 3) (n : State) : (startExchange f len n).cycle = n.cycle := rfl

@[simp] theorem complete_st (code : ResultCode) (n : State) : (complete code n).st = if n.st = .cfgErr then .cfgErr else .idle := rfl
@[simp] theorem complete_op (code : ResultCode) (n : State) : (complete code n).op = n.op := rfl
@[simp] theorem complete_txbuf (code : ResultCode) (n : State) : (complete code n).txbuf = n.txbuf := rfl
@[simp] theorem complete_txIdx (code : ResultCode) (n : State) : (complete code n).txIdx = n.txIdx := rfl
@[simp] theorem complete_expLen (code : ResultCode) (n : State) : (complete code n).expLen = n.expLen := rfl
@[simp] theorem complete_chunkSize (code : ResultCode) (n : State) : (complete code n).chunkSize = n.chunkSize := rfl
@[simp] theorem complete_rxbuf (code : ResultCode) (n : State) : (complete code n).rxbuf = n.rxbuf := rfl
@[simp] theorem complete_rxCnt (code : ResultCode) (n : State) : (complete code n).rxCnt = n.rxCnt := rfl
@[simp] theorem complete_tmr (code : ResultCode) (n : State) : (complete code n).tmr = n.tmr := rfl
@[simp] theorem complete_dropCnt (code : ResultCode) (n : State) : (complete code n).dropCnt = n.dropCnt := rfl
@[simp] theorem complete_doneQ (code : ResultCode) (n : State) : (complete code n).doneQ = true := rfl
@[simp] theorem complete_resOutcome (code : ResultCode) (n : State) : (complete code n).resOutcome = code := rfl
@[simp] theorem complete_res (code : ResultCode) (n : State) : (complete code n).res = n.res := rfl
@[simp] theorem complete_params (code : ResultCode) (n : State) : (complete code n).params = n.params := rfl
@[simp] theorem complete_sched (code : ResultCode) (n : State) : (complete code n).sched = n.sched := rfl
@[simp] theorem complete_cycle (code : ResultCode) (n : State) : (complete code n).cycle = n.cycle := rfl

@[simp] theorem completeNow_st (code : ResultCode) (n : State) : (completeNow code n).st = if n.st = .cfgErr then .cfgErr else .idle := rfl
@[simp] theorem completeNow_op (code : ResultCode) (n : State) : (completeNow code n).op = n.op := rfl
@[simp] theorem completeNow_txbuf (code : ResultCode) (n : State) : (completeNow code n).txbuf = n.txbuf := rfl
@[simp] theorem completeNow_txIdx (code : ResultCode) (n : State) : (completeNow code n).txIdx = n.txIdx := rfl
@[simp] theorem completeNow_expLen (code : ResultCode) (n : State) : (completeNow code n).expLen = 0 := rfl
@[simp] theorem completeNow_chunkSize (code : ResultCode) (n : State) : (completeNow code n).chunkSize = n.chunkSize := rfl
@[simp] theorem completeNow_rxbuf (code : ResultCode) (n : State) : (completeNow code n).rxbuf = n.rxbuf := rfl
@[simp] theorem completeNow_rxCnt (code : ResultCode) (n : State) : (completeNow code n).rxCnt = n.rxCnt := rfl
@[simp] theorem completeNow_tmr (code : ResultCode) (n : State) : (completeNow code n).tmr = n.tmr := rfl
@[simp] theorem completeNow_dropCnt (code : ResultCode) (n : State) : (completeNow code n).dropCnt = n.dropCnt := rfl
@[simp] theorem completeNow_doneQ (code : ResultCode) (n : State) : (completeNow code n).doneQ = true := rfl
@[simp] theorem completeNow_resOutcome (code : ResultCode) (n : State) : (completeNow code n).resOutcome = code := rfl
@[simp] theorem completeNow_res (code : ResultCode) (n : State) : (completeNow code n).res = n.res := rfl
@[simp] theorem completeNow_params (code : ResultCode) (n : State) : (completeNow code n).params = n.params := rfl
@[simp] theorem completeNow_sched (code : ResultCode) (n : State) : (completeNow code n).sched = n.sched := rfl
@[simp] theorem completeNow_cycle (code : ResultCode) (n : State) : (completeNow code n).cycle = n.cycle := rfl

end Sys2Proof.Machine
end

