-- ==== Sys2Proof/Laws/Cycle.lean ====
section
/-! SUPPORT. What every cycle does, said once: `beginCycle` as one update, and the cases of the cycle operations. -/

namespace Sys2Proof.Machine

/-- The common writes of a cycle (R118, R126, R127, R129, R136) as one record update. -/
theorem beginCycle_eq (s : State) :
    beginCycle s =
      { s with
        rxbuf := if collects s then setByteAt s.rxbuf s.rxCnt s.pins.rxData else s.rxbuf
        rxCnt := if collects s then s.rxCnt + 1 else s.rxCnt
        dropCnt := if collects s then s.dropCnt
                   else if s.pins.rxValid then saturatingSucc s.dropCnt else s.dropCnt
        tmr := if timerCounts s then s.tmr + 1 else s.tmr
        doneQ := false
        sched := s.sched.tail
        cycle := s.cycle + 1 } := by
  unfold beginCycle timerHandle rxHandle nextCycle
  split <;> split <;> (try split) <;> simp_all

@[simp] theorem beginCycle_st (s : State) : (beginCycle s).st = s.st := by rw [beginCycle_eq]
@[simp] theorem beginCycle_op (s : State) : (beginCycle s).op = s.op := by rw [beginCycle_eq]
@[simp] theorem beginCycle_txbuf (s : State) : (beginCycle s).txbuf = s.txbuf := by rw [beginCycle_eq]
@[simp] theorem beginCycle_txIdx (s : State) : (beginCycle s).txIdx = s.txIdx := by rw [beginCycle_eq]
@[simp] theorem beginCycle_expLen (s : State) : (beginCycle s).expLen = s.expLen := by rw [beginCycle_eq]
@[simp] theorem beginCycle_chunkSize (s : State) : (beginCycle s).chunkSize = s.chunkSize := by rw [beginCycle_eq]
@[simp] theorem beginCycle_resOutcome (s : State) : (beginCycle s).resOutcome = s.resOutcome := by rw [beginCycle_eq]
@[simp] theorem beginCycle_res (s : State) : (beginCycle s).res = s.res := by rw [beginCycle_eq]
@[simp] theorem beginCycle_params (s : State) : (beginCycle s).params = s.params := by rw [beginCycle_eq]
@[simp] theorem beginCycle_doneQ (s : State) : (beginCycle s).doneQ = false := by rw [beginCycle_eq]
@[simp] theorem beginCycle_sched (s : State) : (beginCycle s).sched = s.sched.tail := by rw [beginCycle_eq]
@[simp] theorem beginCycle_cycle (s : State) : (beginCycle s).cycle = s.cycle + 1 := by rw [beginCycle_eq]

@[simp] theorem beginCycle_rxbuf (s : State) :
    (beginCycle s).rxbuf = if collects s then setByteAt s.rxbuf s.rxCnt s.pins.rxData else s.rxbuf := by
  rw [beginCycle_eq]

@[simp] theorem beginCycle_rxCnt (s : State) :
    (beginCycle s).rxCnt = if collects s then s.rxCnt + 1 else s.rxCnt := by
  rw [beginCycle_eq]

@[simp] theorem beginCycle_dropCnt (s : State) :
    (beginCycle s).dropCnt =
      if collects s then s.dropCnt else if s.pins.rxValid then saturatingSucc s.dropCnt else s.dropCnt := by
  rw [beginCycle_eq]

@[simp] theorem beginCycle_tmr (s : State) :
    (beginCycle s).tmr = if timerCounts s then s.tmr + 1 else s.tmr := by
  rw [beginCycle_eq]

/-- Outside SENDING and AWAITING no byte is collected (R126). -/
theorem collects_false (s : State) (h1 : s.st ≠ .sending) (h2 : s.st ≠ .awaiting) : collects s = false := by
  simp [collects, h1, h2]

/-- Outside AWAITING the timer does not count (R129). -/
theorem timerCounts_false (s : State) (h : s.st ≠ .awaiting) : timerCounts s = false := by
  simp [timerCounts, h]

/-- Outside SENDING and AWAITING a cycle's common writes are those of `idleAfter`. -/
theorem beginCycle_idleAfter (s : State) (h1 : s.st ≠ .sending) (h2 : s.st ≠ .awaiting) :
    beginCycle s = idleAfter s := by
  rw [beginCycle_eq]
  simp [collects_false s h1 h2, timerCounts_false s h2, idleAfter]

/-- Everything `send` can do (R122 to R125). -/
theorem send_cases (s n : State) :
    (s.pins.txReady = false ∧ send s n = n) ∨
    (s.pins.txReady = true ∧ s.txIdx < 4 ∧ send s n = { n with txIdx := s.txIdx + 1 }) ∨
    (s.pins.txReady = true ∧ s.txIdx = 4 ∧ s.expLen = 0 ∧ send s n = complete .sent n) ∨
    (s.pins.txReady = true ∧ s.txIdx = 4 ∧ s.expLen ≠ 0 ∧ send s n = { n with st := .awaiting, tmr := 0 }) ∨
    (s.pins.txReady = true ∧ 4 < s.txIdx ∧ send s n = n) := by
  unfold send
  cases hr : s.pins.txReady
  · exact .inl ⟨rfl, if_neg (by simp)⟩
  · refine .inr ?_
    rw [if_pos rfl]
    by_cases h1 : s.txIdx < 4
    · exact .inl ⟨rfl, h1, if_pos h1⟩
    · rw [if_neg h1]
      by_cases h2 : s.txIdx = 4
      · rw [if_pos h2]
        by_cases h3 : s.expLen = 0
        · exact .inr (.inl ⟨rfl, h2, h3, if_pos h3⟩)
        · exact .inr (.inr (.inl ⟨rfl, h2, h3, if_neg h3⟩))
      · exact .inr (.inr (.inr ⟨rfl, by bv_omega, if_neg h2⟩))

/-- Everything `await` can do (R128, R130, R131). -/
theorem await_cases (s n : State) :
    (s.rxCnt = s.expLen ∧ await s n = { n with st := .replied }) ∨
    (s.rxCnt < s.expLen ∧ s.tmr = Config.timeoutTicks ∧ await s n = { n with st := .timedOut }) ∨
    (s.rxCnt ≠ s.expLen ∧ ¬(s.rxCnt < s.expLen ∧ s.tmr = Config.timeoutTicks) ∧ await s n = n) := by
  unfold await
  by_cases h1 : s.rxCnt = s.expLen
  · simp [h1]
  · by_cases h2 : s.rxCnt < s.expLen ∧ s.tmr = Config.timeoutTicks <;> simp [h1, h2]

/-- Everything `replied` can answer with a next state (R132). -/
theorem replied_cases {s n t : State} (h : replied s n = .next t) :
    (s.op = .getFreqMode ∧ t = completeFreqMode s n) ∨ (s.op = .getRxStatus ∧ t = completeRxStatus s n) ∨
    (s.op = .getTxStatus ∧ t = completeTxStatus s n) ∨ (s.op = .rawExchange ∧ t = completeRaw n) := by
  unfold replied at h
  split at h <;> simp_all

/-- Everything a cycle without an accept can answer with a next state (R118). -/
theorem quietCycle_cases {s t : State} (h : quietCycle s = .next t) :
    ((s.st = .idle ∨ s.st = .cfgErr) ∧ t = idleAfter s) ∨
    (s.st = .sending ∧ t = send s (beginCycle s)) ∨
    (s.st = .awaiting ∧ t = await s (beginCycle s)) ∨
    (s.st = .replied ∧ replied s (idleAfter s) = .next t) ∨
    (s.st = .timedOut ∧ t = timedOut (idleAfter s)) := by
  have hb := beginCycle_idleAfter s
  unfold quietCycle at h
  split at h <;> simp_all

/-- Everything a cycle with an offered request can answer with a next state (R119, R134). -/
theorem requestCycle_cases {op : HostOp} {action : State → Result} {s t : State}
    (h : requestCycle op action s = .next t) :
    (s.st = .idle ∧ action (acceptedAfter op s) = .next t) ∨
    (s.st = .cfgErr ∧ t = completeNow .configError (acceptedAfter op s)) ∨
    (s.st ≠ .idle ∧ s.st ≠ .cfgErr ∧ quietCycle s = .next t) := by
  have hb := beginCycle_idleAfter s
  unfold requestCycle at h
  split at h <;> simp_all [acceptedAfter, acceptCommon]

/-- The request cycle in IDLE: the operation part on the accepted state (R120, R121). -/
theorem requestCycle_idle {op : HostOp} {action : State → Result} {s : State} (h : s.st = .idle) :
    requestCycle op action s = action (acceptedAfter op s) := by
  have hb := beginCycle_idleAfter s (by simp [h]) (by simp [h])
  simp [requestCycle, h, hb, acceptedAfter, acceptCommon]

/-- The request cycle in CFGERR (R134). -/
theorem requestCycle_cfgErr {op : HostOp} {action : State → Result} {s : State} (h : s.st = .cfgErr) :
    requestCycle op action s = .next (completeNow .configError (acceptedAfter op s)) := by
  have hb := beginCycle_idleAfter s (by simp [h]) (by simp [h])
  simp [requestCycle, h, hb, acceptedAfter, acceptCommon]

/-- The request cycle in any other state: the request waits (R119). -/
theorem requestCycle_busy {op : HostOp} {action : State → Result} {s : State} (h1 : s.st ≠ .idle)
    (h2 : s.st ≠ .cfgErr) : requestCycle op action s = quietCycle s := by
  unfold requestCycle
  split <;> simp_all

end Sys2Proof.Machine
end

