-- ==== Sys2Proof/Laws/PerInstr.lean ====
section
/-! SUPPORT. The family EncodeShape: how many bytes an instruction's encoding has. -/

namespace Sys2Proof.Laws.EncodeShape

/-- A wire frame is five bytes (R64), a request word ten (R76; log 14). -/
def Statement (i : Instr) : Prop :=
  (encode i).length = match i with
    | .setFreqFrame _ => 5
    | .readFreqMode => 5
    | .readRxStatus => 5
    | .readTxStatus => 5
    | .setFreq _ => 10
    | .getFreqMode => 10
    | .getRxStatus => 10
    | .getTxStatus => 10
    | .rawExchange _ _ => 10
    | .configFraming _ => 10
    | .reserved6 => 10
    | .reserved7 => 10

theorem setFreqFrame (ds : Digits) : Statement (.setFreqFrame ds) := rfl
theorem readFreqMode : Statement .readFreqMode := rfl
theorem readRxStatus : Statement .readRxStatus := rfl
theorem readTxStatus : Statement .readTxStatus := rfl
theorem setFreq (freq : Option (BitVec 32)) : Statement (.setFreq freq) := by cases freq <;> rfl
theorem getFreqMode : Statement .getFreqMode := rfl
theorem getRxStatus : Statement .getRxStatus := rfl
theorem getTxStatus : Statement .getTxStatus := rfl
theorem rawExchange (frame : Bytes5) (len : BitVec 3) : Statement (.rawExchange frame len) := rfl
theorem configFraming (len : BitVec 3) : Statement (.configFraming len) := rfl
theorem reserved6 : Statement .reserved6 := rfl
theorem reserved7 : Statement .reserved7 := rfl

end Sys2Proof.Laws.EncodeShape
end

