-- ==== Sys2Proof/Laws/Step.lean ====
section
/-! SUPPORT. Every meaning is a request cycle; everything one step can do. -/

namespace Sys2Proof.Machine

/-- The operation part of an offered instruction's accept (R121, R142 to R148; log 3 for the frames). -/
def offeredAction : Instr → State → Result
  | .setFreqFrame ds => fun n => .next (startExchange (frameOfDigits ds) (replyLength (frameOfDigits ds).b4) n)
  | .readFreqMode => fun n => .next (startExchange frameReadFreqMode (replyLength frameReadFreqMode.b4) n)
  | .readRxStatus => fun n => .next (startExchange frameReadRxStatus (replyLength frameReadRxStatus.b4) n)
  | .readTxStatus => fun n => .next (startExchange frameReadTxStatus (replyLength frameReadTxStatus.b4) n)
  | .setFreq freq => acceptSetFreq (effectiveFreq freq)
  | .getFreqMode => fun n => .next (startExchange frameReadFreqMode 5 n)
  | .getRxStatus => fun n => .next (startExchange frameReadRxStatus 1 n)
  | .getTxStatus => fun n => .next (startExchange frameReadTxStatus 1 n)
  | .rawExchange frame len => acceptRaw frame len
  | .configFraming len => acceptFraming len
  | .reserved6 => fun n => .next (completeNow .reqInvalid n)
  | .reserved7 => fun n => .next (completeNow .reqInvalid n)

/-- Every meaning is the request cycle of its operation and its operation part. -/
theorem exec_requestCycle (i : Instr) (s : State) : exec i s = requestCycle (offeredOp i) (offeredAction i) s := by
  cases i <;> rfl

theorem rawLengthLegal_iff (len : BitVec 3) : rawLengthLegal len = true ↔ len ≤ 5 := decide_eq_true_iff

theorem framingLengthLegal_iff (len : BitVec 3) : framingLengthLegal len = true ↔ 1 ≤ len ∧ len ≤ 5 := by
  revert len
  decide

/-- The operation part of an accept either starts an exchange of a legal length or completes at once (R121). -/
theorem offeredAction_cases {i : Instr} {n t : State} (h : offeredAction i n = .next t) :
    (∃ frame len, len ≤ 5 ∧ lengthFits (offeredOp i) len = true ∧ t = startExchange frame len n) ∨
    (∃ code len, code ≠ .none ∧ (len = n.chunkSize ∨ 1 ≤ len ∧ len ≤ 5) ∧
      t = completeNow code { n with chunkSize := len }) := by
  cases i with
  | setFreq freq =>
    simp only [offeredAction, acceptSetFreq] at h
    split at h
    · split at h
      · exact .inl ⟨_, 0, by decide, rfl, by simpa using h.symm⟩
      · simp at h
    · exact .inr ⟨.unreachableFreq, n.chunkSize, by simp, .inl rfl, by simpa using h.symm⟩
  | rawExchange frame len =>
    simp only [offeredAction, acceptRaw] at h
    split at h
    · rename_i hl
      exact .inl ⟨frame, len, (rawLengthLegal_iff len).1 hl, rfl, by simpa using h.symm⟩
    · exact .inr ⟨.reqInvalid, n.chunkSize, by simp, .inl rfl, by simpa using h.symm⟩
  | configFraming len =>
    simp only [offeredAction, acceptFraming] at h
    split at h
    · rename_i hl
      exact .inr ⟨.ok, len, by simp, .inr ((framingLengthLegal_iff len).1 hl),
        by simpa using h.symm⟩
    · exact .inr ⟨.reqInvalid, n.chunkSize, by simp, .inl rfl, by simpa using h.symm⟩
  | reserved6 => exact .inr ⟨.reqInvalid, n.chunkSize, by simp, .inl rfl, by simpa [offeredAction] using h.symm⟩
  | reserved7 => exact .inr ⟨.reqInvalid, n.chunkSize, by simp, .inl rfl, by simpa [offeredAction] using h.symm⟩
  | setFreqFrame ds => exact .inl ⟨_, 0, by decide, rfl,
      (Host.Outcome.next.inj h).symm⟩
  | readFreqMode => exact .inl ⟨_, 5, by decide, rfl, (Host.Outcome.next.inj h).symm⟩
  | readRxStatus => exact .inl ⟨_, 1, by decide, rfl, (Host.Outcome.next.inj h).symm⟩
  | readTxStatus => exact .inl ⟨_, 1, by decide, rfl, (Host.Outcome.next.inj h).symm⟩
  | getFreqMode => exact .inl ⟨_, 5, by decide, rfl, by simpa [offeredAction] using h.symm⟩
  | getRxStatus => exact .inl ⟨_, 1, by decide, rfl, by simpa [offeredAction] using h.symm⟩
  | getTxStatus => exact .inl ⟨_, 1, by decide, rfl, by simpa [offeredAction] using h.symm⟩

/-- What a cycle runs, by reset, state and pins. -/
theorem fetch_cases (s : State) :
    (s.pins.rst = true ∧ fetch s = .reset) ∨
    (s.pins.rst = false ∧ (s.st = .idle ∨ s.st = .cfgErr) ∧ s.pins.reqValid = true ∧
      fetch s = .run (decodeRequest s.pins.req)) ∨
    (s.pins.rst = false ∧ (s.st = .idle ∨ s.st = .cfgErr) ∧ s.pins.reqValid = false ∧ fetch s = .quiet) ∨
    (s.pins.rst = false ∧ s.st ≠ .idle ∧ s.st ≠ .cfgErr ∧ (fetch s = .quiet ∨ ∃ i, fetch s = .run i)) := by
  unfold fetch
  cases hr : s.pins.rst
  · rw [if_neg (by simp)]
    have hq : fetchRequest s = if s.pins.reqValid then .run (decodeRequest s.pins.req) else .quiet := rfl
    cases hst : s.st <;> cases hv : s.pins.reqValid <;> simp [hv, hq] <;> unfold fetchFrame <;> split <;> simp
  · exact .inl ⟨rfl, rfl⟩

/-- Everything a step can answer with a next state: the reset cycle, an accept in IDLE, an accept in CFGERR, or the state
machine without an accept. -/
theorem step_cases {s t : State} (h : step s = .next t) :
    (s.pins.rst = true ∧ t = resetCycle s) ∨
    (s.pins.rst = false ∧ s.st = .idle ∧ s.pins.reqValid = true ∧
      offeredAction (decodeRequest s.pins.req) (acceptedAfter (offeredOp (decodeRequest s.pins.req)) s) = .next t) ∨
    (s.pins.rst = false ∧ s.st = .cfgErr ∧ s.pins.reqValid = true ∧
      t = completeNow .configError (acceptedAfter (offeredOp (decodeRequest s.pins.req)) s)) ∨
    (s.pins.rst = false ∧ ((s.st = .idle ∨ s.st = .cfgErr) → s.pins.reqValid = false) ∧ quietCycle s = .next t) := by
  unfold step at h
  rcases fetch_cases s with ⟨hr, hf⟩ | ⟨hr, hst, hv, hf⟩ | ⟨hr, hst, hv, hf⟩ | ⟨hr, h1, h2, hf⟩
  · rw [hf] at h
    exact .inl ⟨hr, by simpa using h.symm⟩
  · rw [hf] at h
    simp only [exec_requestCycle] at h
    rcases hst with hst | hst
    · rw [requestCycle_idle hst] at h
      exact .inr (.inl ⟨hr, hst, hv, h⟩)
    · rw [requestCycle_cfgErr hst] at h
      exact .inr (.inr (.inl ⟨hr, hst, hv, by simpa using h.symm⟩))
  · rw [hf] at h
    exact .inr (.inr (.inr ⟨hr, fun _ => hv, h⟩))
  · refine .inr (.inr (.inr ⟨hr, by simp [h1, h2], ?_⟩))
    rcases hf with hf | ⟨i, hf⟩
    · rw [hf] at h
      exact h
    · rw [hf] at h
      simpa only [exec_requestCycle, requestCycle_busy h1 h2] using h

/-- A step without reset in a state that is neither IDLE nor CFGERR is the state machine's cycle, whatever the frame in
TXBUF (R118, R122 to R133). -/
theorem step_busy {s : State} (hr : s.pins.rst = false) (h1 : s.st ≠ .idle) (h2 : s.st ≠ .cfgErr) :
    step s = quietCycle s := by
  unfold step
  rcases fetch_cases s with ⟨hr', _⟩ | ⟨_, hst, _, _⟩ | ⟨_, hst, _, _⟩ | ⟨_, _, _, hf⟩
  · simp [hr] at hr'
  · simp [h1, h2] at hst
  · simp [h1, h2] at hst
  · rcases hf with hf | ⟨i, hf⟩ <;> rw [hf]
    simp only
    rw [exec_requestCycle, requestCycle_busy h1 h2]

end Sys2Proof.Machine
end

