-- ==== Sys2Proof/Laws/Run.lean ====
section
/-! SUPPORT. Runs of the machine, one step at a time. -/

namespace Sys2Proof.Machine

/-- A run takes its first step and goes on from there. -/
theorem run_next (M : Host.Core) (k : Nat) (s t : M.State) (h : M.step s = .next t) : M.run (k + 1) s = M.run k t := by
  rw [Host.Core.run, h]

/-- A run whose first step faults or refuses reaches no state. -/
theorem run_stop (M : Host.Core) (k : Nat) (s t : M.State) (h : ∀ u, M.step s ≠ .next u) : M.run (k + 1) s ≠ .next t := by
  rw [Host.Core.run]
  split
  · rename_i u hu
    exact absurd hu (h u)
  · simp
  · simp

/-- A run of `k + m` steps is a run of `m` steps from where `k` steps lead. -/
theorem run_add (M : Host.Core) (k m : Nat) (s t : M.State) (h : M.run k s = .next t) : M.run (k + m) s = M.run m t := by
  induction k generalizing s with
  | zero =>
    cases h
    simp
  | succ k ih =>
    by_cases hu : ∃ u, M.step s = .next u
    · obtain ⟨u, hu⟩ := hu
      rw [run_next M k s u hu] at h
      rw [show k + 1 + m = (k + m) + 1 by omega, run_next M _ s u hu]
      exact ih u h
    · exact absurd h (run_stop M k s t (by simpa using hu))

/-- A run of the engine takes its first cycle and goes on from there. -/
theorem run_succ {k : Nat} {s t : State} (h : step s = .next t) :
    Host.Core.run Sys2Proof.core (k + 1) s = Host.Core.run Sys2Proof.core k t :=
  run_next Sys2Proof.core k s t h

/-- The pins of a cycle the schedule lists. -/
theorem pins_of_sched {s : State} {p : Pins} {l : List Pins} (h : s.sched = p :: l) : s.pins = p := by
  simp [State.pins, h]

end Sys2Proof.Machine
end

