-- ==== Sys2Proof/Tests/Slice0.lean ====
section
/-! SUPPORT. Tests: words and values written out from the spec, one step at a time, and a witness for the hypotheses of
every statement that has some. -/

open Sys2Proof Sys2Proof.Machine

namespace Sys2Proof.Tests

/-! ### Small states -/

/-- A cycle in which the host offers the request word `q`. -/
def ask (q : BitVec 79) : Pins := { Config.quietPins with reqValid := true, req := requestOfWord q }

/-- A cycle in which the byte `b` arrives. -/
def rx (b : Byte) : Pins := { Config.quietPins with rxValid := true, rxData := b }

/-- A cycle with a tick. -/
def ticking : Pins := { Config.quietPins with tick := true }

/-- A cycle in which the channel takes no byte. -/
def stalled : Pins := { Config.quietPins with txReady := false }

/-- A reset cycle. -/
def resetting : Pins := { Config.quietPins with rst := true }

/-- A quiet cycle. -/
def calm : Pins := Config.quietPins

/-- The reset state, in phase `st`, with these cycles to come. -/
def inPhase (st : Phase) (l : List Pins) : State := { State.reset with st := st, sched := l }

/-- An exchange of `op` awaiting `len` bytes (at least 1), in phase `st`. -/
def exchange (st : Phase) (op : HostOp) (len : BitVec 3) (l : List Pins) : State :=
  { inPhase st l with op := op, expLen := len, chunkSize := len, txIdx := 4 }

/-- The frame `frame` being sent, byte `idx` next, with no reply awaited. -/
def sendingFrame (frame : Bytes5) (idx : BitVec 3) (l : List Pins) : State :=
  { inPhase .sending l with txbuf := frame, txIdx := idx }

/-- A complete reply of `op` in REPLIED. -/
def repliedWith (op : HostOp) (len : BitVec 3) (r : Bytes5) : State :=
  { exchange .replied op len [calm] with rxbuf := r, rxCnt := len }

/-- What the next state of a result shows, if there is one. -/
def seen {α : Type} (f : State → α) : Result → Option α
  | .next t => some (f t)
  | .fault _ => none
  | .refused _ => none

/-! ### Well-formedness (R66): the check of each digit refuses a digit of 10 -/

theorem test_wf_accepts : (Instr.setFreqFrame ⟨9, 9, 9, 9, 9, 9, 9, 9⟩).wellFormed = true := by decide
theorem test_wf_d0 : (Instr.setFreqFrame ⟨10, 0, 0, 0, 0, 0, 0, 0⟩).wellFormed = false := by decide
theorem test_wf_d1 : (Instr.setFreqFrame ⟨0, 10, 0, 0, 0, 0, 0, 0⟩).wellFormed = false := by decide
theorem test_wf_d2 : (Instr.setFreqFrame ⟨0, 0, 10, 0, 0, 0, 0, 0⟩).wellFormed = false := by decide
theorem test_wf_d3 : (Instr.setFreqFrame ⟨0, 0, 0, 10, 0, 0, 0, 0⟩).wellFormed = false := by decide
theorem test_wf_d4 : (Instr.setFreqFrame ⟨0, 0, 0, 0, 10, 0, 0, 0⟩).wellFormed = false := by decide
theorem test_wf_d5 : (Instr.setFreqFrame ⟨0, 0, 0, 0, 0, 10, 0, 0⟩).wellFormed = false := by decide
theorem test_wf_d6 : (Instr.setFreqFrame ⟨0, 0, 0, 0, 0, 0, 10, 0⟩).wellFormed = false := by decide
theorem test_wf_d7 : (Instr.setFreqFrame ⟨0, 0, 0, 0, 0, 0, 0, 10⟩).wellFormed = false := by decide

/-! ### Decoding: words of 95_test_vectors.md and of R66 to R69, R76, R81 -/

theorem test_decode_set_freq_frame :
    decode [0x14, 0x57, 0x50, 0x00, 0x01] = .ok (.setFreqFrame ⟨1, 4, 5, 7, 5, 0, 0, 0⟩) := by decide
theorem test_decode_set_freq_frame_word :
    decodeTableWord 40 0x1234567801 = some (.setFreqFrame ⟨1, 2, 3, 4, 5, 6, 7, 8⟩) := by decide
theorem test_decode_read_freq_mode : decodeTableWord 40 0x0000000003 = some .readFreqMode := by decide
theorem test_decode_read_rx_status : decodeTableWord 40 0x00000000E7 = some .readRxStatus := by decide
theorem test_decode_read_tx_status : decodeTableWord 40 0x00000000F7 = some .readTxStatus := by decide
theorem test_decode_set_freq : decodeTableWord 80 0x0806F32CC00000000000 = some (.setFreq (some 14575000)) := by decide
theorem test_decode_set_freq_default : decodeTableWord 80 0x00000000000000000000 = some (.setFreq none) := by decide
theorem test_decode_get_freq_mode : decodeTableWord 80 0x10000000000000000000 = some .getFreqMode := by decide
theorem test_decode_get_rx_status : decodeTableWord 80 0x20000000000000000000 = some .getRxStatus := by decide
theorem test_decode_get_tx_status : decodeTableWord 80 0x30000000000000000000 = some .getTxStatus := by decide
theorem test_decode_raw_exchange :
    decodeTableWord 80 0x400000000100000000E7 = some (.rawExchange ⟨0, 0, 0, 0, 0xE7⟩ 1) := by decide
theorem test_decode_config_framing : decodeTableWord 80 0x50000000030000000000 = some (.configFraming 3) := by decide
theorem test_decode_reserved6 : decodeTableWord 80 0x60000000000000000000 = some .reserved6 := by decide
theorem test_decode_reserved7 : decodeTableWord 80 0x70000000000000000000 = some .reserved7 := by decide

theorem test_reject_unknown_opcode : decode [0, 0, 0, 0, 0x02] = .error .unknownOpcode := by decide
theorem test_reject_nonzero_payload : decode [0, 0, 0, 1, 0x03] = .error .nonzeroPayload := by decide
theorem test_reject_pad_bit : decode [0x80, 0, 0, 0, 0, 0, 0, 0, 0, 0] = .error .padBit := by decide
theorem test_reject_length : decode [0, 0, 0, 0x01] = .error .length := by decide

/-! ### Codec and decoders: 95_test_vectors.md part 1 and 2.1 to 2.5 -/

theorem test_digits8 : digits8 43210 = ⟨0, 0, 0, 4, 3, 2, 1, 0⟩ := by decide
theorem test_bcd_pack_is_not_binary : bcdPack 1 0 = some 0x10 := by decide
theorem test_frame_set_freq : frameSetFreq 14575000 = some ⟨0x14, 0x57, 0x50, 0x00, 0x01⟩ := by decide

/-! ### The twelve instructions, one step each -/

/-- S1: the first byte of the set-frequency frame goes out and the index advances. -/
theorem test_set_freq_frame_sends_a_byte :
    byteSent (sendingFrame ⟨0x14, 0x57, 0x50, 0x00, 0x01⟩ 0 [calm]) = some 0x14 ∧
    seen (fun t => (t.st, t.txIdx)) (exec (.setFreqFrame ⟨1, 4, 5, 7, 5, 0, 0, 0⟩)
      (sendingFrame ⟨0x14, 0x57, 0x50, 0x00, 0x01⟩ 0 [calm])) = some (.sending, 1) := by decide

/-- S1: with the last byte the fire-and-forget frame completes SENT. -/
theorem test_set_freq_frame_ends_in_sent :
    seen (fun t => (t.st, t.resOutcome, t.doneQ)) (step (sendingFrame ⟨0x14, 0x57, 0x50, 0x00, 0x01⟩ 4 [calm])) =
      some (.idle, .sent, true) := by decide

/-- T1, R125: with the last byte of a frame that awaits a reply, AWAITING with TMR 0. -/
theorem test_read_freq_mode_then_awaits :
    seen (fun t => (t.st, t.tmr)) (step { exchange .sending .getFreqMode 5 [calm] with
      txbuf := ⟨0, 0, 0, 0, 0x03⟩, tmr := 77 }) = some (.awaiting, 0) := by decide

/-- T2, R126: a reply byte that arrives in SENDING is stored. -/
theorem test_read_rx_status_collects_while_sending :
    seen (fun t => (t.rxbuf, t.rxCnt, t.dropCnt)) (step { exchange .sending .getRxStatus 1 [rx 0x09] with
      txbuf := ⟨0, 0, 0, 0, 0xE7⟩, txIdx := 1 }) = some (⟨0x09, 0, 0, 0, 0⟩, 1, 0) := by decide

/-- T7, R122: the channel takes no byte, so the frame is held. -/
theorem test_read_tx_status_is_held :
    seen (fun t => (t.st, t.txIdx)) (step { exchange .sending .getTxStatus 1 [stalled] with
      txbuf := ⟨0, 0, 0, 0, 0xF7⟩, txIdx := 4 }) = some (.sending, 4) := by decide

/-- S10: SET_FREQ with none supplied loads the frame of 14575000. -/
theorem test_set_freq_accept :
    seen (fun t => (t.st, t.txbuf, t.expLen, t.chunkSize)) (exec (.setFreq none) (inPhase .idle [calm])) =
      some (.sending, ⟨0x14, 0x57, 0x50, 0x00, 0x01⟩, 0, 1) := by decide

/-- R142: 100000000 is always UNREACHABLE_FREQ. -/
theorem test_set_freq_unreachable :
    seen (fun t => (t.st, t.resOutcome, t.doneQ)) (exec (.setFreq (some 100000000)) (inPhase .idle [calm])) =
      some (.idle, .unreachableFreq, true) := by decide

/-- S2: the reply `14 57 50 00 03`. -/
theorem test_get_freq_mode_decodes :
    seen (fun t => (t.resOutcome, t.res.freqBcd, t.res.mhz, t.res.khz, t.res.hz, t.res.modeId))
      (step (repliedWith .getFreqMode 5 ⟨0x14, 0x57, 0x50, 0x00, 0x03⟩)) =
      some (.ok, 0x14575000, 145, 750, 0, 0x03) := by decide

/-- 2.3: the reply `1A 00 00 00 03` is FORMAT_ERROR, with no result and the raw reply kept. -/
theorem test_get_freq_mode_format_error :
    seen (fun t => (t.resOutcome, t.res, t.rxbuf)) (step (repliedWith .getFreqMode 5 ⟨0x1A, 0, 0, 0, 0x03⟩)) =
      some (.formatError, zeroResults, ⟨0x1A, 0, 0, 0, 0x03⟩) := by decide

/-- T1, 2.4: the reply 0x8B is squelched 1, s 11, dB 20. -/
theorem test_get_rx_status_decodes :
    seen (fun t => (t.resOutcome, t.res.squelched, t.res.smeter, t.res.sOverDb))
      (step (repliedWith .getRxStatus 1 ⟨0x8B, 0, 0, 0, 0⟩)) = some (.ok, true, 11, 20) := by decide

/-- T1: the accept of GET_RX_STATUS. -/
theorem test_get_rx_status_accept :
    seen (fun t => (t.txbuf, t.expLen, t.chunkSize)) (exec .getRxStatus (inPhase .idle [calm])) =
      some (⟨0, 0, 0, 0, 0xE7⟩, 1, 1) := by decide

/-- 2.5: the reply 0x40 is PTT 1, high SWR 1, split 0 under the default polarity. -/
theorem test_get_tx_status_decodes :
    seen (fun t => (t.resOutcome, t.res.ptt, t.res.hiswr, t.res.split))
      (step (repliedWith .getTxStatus 1 ⟨0x40, 0, 0, 0, 0⟩)) = some (.ok, true, true, false) := by decide

/-- S5: the byte 0x00 under the other polarity is PTT 1, high SWR 1, split 1. -/
theorem test_get_tx_status_other_polarity :
    seen (fun t => (t.res.ptt, t.res.hiswr, t.res.split))
      (step { repliedWith .getTxStatus 1 zeroBytes with params := ⟨[], .clearMeansTrue⟩ }) =
      some (true, true, true) := by decide

/-- R146: the frame is sent as given and its length becomes CHUNK_SIZE. -/
theorem test_raw_exchange_accept :
    seen (fun t => (t.st, t.op, t.txbuf, t.expLen, t.chunkSize))
      (exec (.rawExchange ⟨1, 2, 3, 4, 5⟩ 3) (inPhase .idle [calm])) =
      some (.sending, .rawExchange, ⟨1, 2, 3, 4, 5⟩, 3, 3) := by decide

/-- R146: a length of 6 is REQ_INVALID. -/
theorem test_raw_exchange_invalid :
    seen (fun t => (t.st, t.resOutcome)) (exec (.rawExchange zeroBytes 6) (inPhase .idle [calm])) =
      some (.idle, .reqInvalid) := by decide

/-- R147: CONFIG_FRAMING 5 gives OK and chunk size 5. -/
theorem test_config_framing_sets :
    seen (fun t => (t.resOutcome, t.chunkSize)) (exec (.configFraming 5) (inPhase .idle [calm])) =
      some (.ok, 5) := by decide

/-- R147: CONFIG_FRAMING 0 gives REQ_INVALID and leaves the chunk size. -/
theorem test_config_framing_zero :
    seen (fun t => (t.resOutcome, t.chunkSize)) (exec (.configFraming 0) (inPhase .idle [calm])) =
      some (.reqInvalid, 1) := by decide

/-- R148: RESERVED6 gives REQ_INVALID. -/
theorem test_reserved6 :
    seen (fun t => (t.op, t.resOutcome, t.doneQ)) (exec .reserved6 (inPhase .idle [calm])) =
      some (.reserved6, .reqInvalid, true) := by decide

/-- R134: RESERVED7 in CFGERR gives CONFIG_ERROR. -/
theorem test_reserved7_in_cfgerr :
    seen (fun t => (t.st, t.op, t.resOutcome)) (step (inPhase .cfgErr [ask (0x7 <<< 76)])) =
      some (.cfgErr, .reserved7, .configError) := by decide

/-! ### The race and the reset -/

/-- T5, cycle 1006: a byte with the 1001st tick is stored. -/
theorem test_byte_with_the_last_tick :
    seen (fun t => (t.st, t.rxbuf.b0, t.rxCnt, t.tmr))
      (step { exchange .awaiting .getRxStatus 1 [{ rx 0x07 with tick := true }] with tmr := 1000 }) =
      some (.awaiting, 0x07, 1, 1001) := by decide

/-- T5, cycle 1007: the reply wins. -/
theorem test_reply_wins_the_tie :
    seen (fun t => t.st) (step { exchange .awaiting .getRxStatus 1 [calm] with tmr := 1001, rxCnt := 1 }) =
      some .replied := by decide

/-- T6, cycle 1007: the byte is too late, it is dropped, and the timeout is taken. -/
theorem test_byte_too_late :
    seen (fun t => (t.st, t.rxCnt, t.dropCnt))
      (step { exchange .awaiting .getRxStatus 1 [rx 0x07] with tmr := 1001 }) = some (.timedOut, 0, 1) := by decide

/-- R127: the drop counter saturates. -/
theorem test_drop_counter_saturates :
    seen (fun t => t.dropCnt) (step { inPhase .idle [rx 0xAA] with dropCnt := 0xFFFF }) = some 0xFFFF := by decide

/-- R168: a reset cycle without a configured channel leads to CFGERR. -/
theorem test_reset_without_channel :
    seen (fun t => t.st) (step (inPhase .awaiting [{ resetting with chanConfigured := false }])) = some .cfgErr := by
  decide

/-! ### Placing a word -/

theorem test_placed_frame_runs :
    seen (fun t => (t.st, t.txbuf, t.txIdx, t.expLen)) (step (State.reset.withFetchWord 40 0xE7)) =
      some (.sending, ⟨0, 0, 0, 0, 0xE7⟩, 1, 1) := by decide

theorem test_placed_request_runs :
    seen (fun t => (t.st, t.txbuf)) (step (State.reset.withFetchWord 80 0x10000000000000000000)) =
      some (.sending, ⟨0, 0, 0, 0, 0x03⟩) := by decide

/-! ### Witnesses: the hypotheses of the statements are met -/

theorem witness_DecodeEncodeAgree : (Instr.setFreqFrame ⟨1, 4, 5, 7, 5, 0, 0, 9⟩).wellFormed = true := by decide

/-- Every one of the eight codes occurs. -/
theorem witness_EveryRequestWordDecodes :
    ∀ c : BitVec 3, ((c.zeroExtend 79) <<< 76).extractLsb' 76 3 = c := by decide

theorem witness_FrameDecodesExactlyToItsEncoding : encode .readTxStatus = listOfFrame ⟨0, 0, 0, 0, 0xF7⟩ := by decide

theorem witness_OtherFramesAreRejectedByName :
    ((0x02 : Byte) ≠ 0x01 ∧ (0x02 : Byte) ≠ 0x03 ∧ (0x02 : Byte) ≠ 0xE7 ∧ (0x02 : Byte) ≠ 0xF7) ∧
    ((⟨0, 0, 0, 1, 0xF7⟩ : Bytes5).b4 = 0xF7 ∧ (⟨0, 0, 0, 1, 0xF7⟩ : Bytes5).b3 ≠ 0) := by decide

/-- For Digits8IsTheDecimalForm and SetFreqFrameIsItsEncoding, at the end of the range. -/
theorem witness_Digits8IsTheDecimalForm : (99999999 : BitVec 32).toNat ≤ 99999999 := by decide

theorem witness_BcdPackUnpack :
    ((9 : Nibble) ≤ 9 ∧ (9 : Nibble) ≤ 9) ∧ ¬((10 : Nibble) ≤ 9 ∧ (0 : Nibble) ≤ 9) := by decide

theorem witness_FrequencyRoundTrip : validFreq Config.defaultParams 99999999 = true := by decide

theorem witness_FreqModeFields : freqOk ⟨0x99, 0x99, 0x99, 0x99, 0xFF⟩ = true := by decide

theorem witness_UnusedStatusBitsIgnored :
    ((0x7F : Byte) &&& 0x8F = 0x0F &&& 0x8F) ∧ ((0x1F : Byte) &&& 0xE0 = 0x00 &&& 0xE0) := by decide

theorem witness_ResetCycleSetsEveryRegister : (inPhase .sending [resetting]).pins.rst = true := by decide

theorem witness_ResetStateIsWhatAResetCycleLeaves :
    (inPhase .sending [resetting]).pins.rst = true ∧ (inPhase .sending [resetting]).pins.chanConfigured = true ∧
    (inPhase .sending [resetting]).params = Config.defaultParams := by decide

theorem witness_StepRunsTheOfferedRequest :
    (inPhase .idle [ask (0x5 <<< 76)]).pins.rst = false ∧ (inPhase .idle [ask (0x5 <<< 76)]).st = .idle ∧
    (inPhase .cfgErr [ask (0x5 <<< 76)]).st = .cfgErr ∧
    (inPhase .idle [ask (0x5 <<< 76)]).pins.reqValid = true ∧
    decode (encodeRequest (inPhase .idle [ask (0x5 <<< 76)]).pins.req) = .ok (.configFraming 0) := by decide

theorem witness_StepRunsTheFrameOnTheWire :
    (sendingFrame ⟨0, 0, 0, 0, 0x03⟩ 0 [calm]).pins.rst = false ∧
    (sendingFrame ⟨0, 0, 0, 0, 0x03⟩ 0 [calm]).st = .sending ∧
    decode (listOfFrame (sendingFrame ⟨0, 0, 0, 0, 0x03⟩ 0 [calm]).txbuf) = .ok .readFreqMode ∧
    decode (listOfFrame (sendingFrame ⟨1, 2, 3, 4, 5⟩ 0 [calm]).txbuf) = .error .unknownOpcode := by decide

theorem witness_PlacedWordRunsNext :
    decodeTableWord 40 0x9999999901 = some (.setFreqFrame ⟨9, 9, 9, 9, 9, 9, 9, 9⟩) ∧
    decodeTableWord 80 0x70000000000000000000 = some .reserved7 := by decide

theorem witness_SetFreqStartsItsExchange :
    (inPhase .idle [calm]).st = .idle ∧
    validFreq (inPhase .idle [calm]).params (effectiveFreq (some 99999999)) = true := by decide

/-- Both grounds: above FREQ_MAX, and refused by a table. -/
theorem witness_UnreachableFrequencyIsRefused :
    (inPhase .idle [calm]).st = .idle ∧ (effectiveFreq (some 100000000)).toNat > 99999999 ∧
    isValidRxFrequency ⟨[], .setMeansTrue⟩ (effectiveFreq none) = false := by decide

/-- For ReadRequestsStartTheirExchanges, ReservedCodesAreInvalid and BareFramesEnterAsRawExchange. -/
theorem witness_ReadRequestsStartTheirExchanges : (inPhase .idle [rx 0x55]).st = .idle := by decide

theorem witness_RawExchangeStartsOrIsInvalid :
    (inPhase .idle [calm]).st = .idle ∧ (0 : BitVec 3) ≤ 5 ∧ (5 : BitVec 3) ≤ 5 ∧ (6 : BitVec 3) > 5 := by decide

theorem witness_ConfigFramingSetsOrIsInvalid :
    (inPhase .idle [calm]).st = .idle ∧ ((1 : BitVec 3) ≤ 1 ∧ (1 : BitVec 3) ≤ 5) ∧
    ((1 : BitVec 3) ≤ 5 ∧ (5 : BitVec 3) ≤ 5) ∧ (5 : BitVec 3) < 6 := by decide

theorem witness_CfgErrAnswersConfigError : (inPhase .cfgErr [ask 0]).st = .cfgErr := by decide

theorem witness_BusyEngineIgnoresTheRequestPort :
    (inPhase .awaiting [ask 0]).sched = [ask 0] ∧ (inPhase .awaiting [ask 0]).st ≠ .idle ∧
    (inPhase .awaiting [ask 0]).st ≠ .cfgErr := by decide

theorem witness_RestKeepsTheResults :
    (inPhase .idle [rx 1]).pins.rst = false ∧ (inPhase .idle [rx 1]).st = .idle ∧
    (inPhase .cfgErr [rx 1]).st = .cfgErr ∧ (inPhase .idle [rx 1]).pins.reqValid = false := by decide

/-- Every clause: held, a byte on the way, the last byte without and with a reply awaited. -/
theorem witness_WireFrameIsSentByteByByte :
    (sendingFrame ⟨0, 0, 0, 0, 0x03⟩ 3 [stalled]).pins.txReady = false ∧
    (sendingFrame ⟨0, 0, 0, 0, 0x03⟩ 3 [calm]).pins.txReady = true ∧
    (sendingFrame ⟨0, 0, 0, 0, 0x03⟩ 3 [calm]).st = .sending ∧
    (sendingFrame ⟨0, 0, 0, 0, 0x03⟩ 3 [calm]).txIdx < 4 ∧
    (sendingFrame ⟨0, 0, 0, 0, 0x03⟩ 4 [calm]).txIdx = 4 ∧ (sendingFrame ⟨0, 0, 0, 0, 0x03⟩ 4 [calm]).expLen = 0 ∧
    1 ≤ (exchange .sending .getFreqMode 5 [calm]).expLen ∧ (exchange .sending .getFreqMode 5 [calm]).txIdx = 4 ∧
    encode .readFreqMode = listOfFrame (sendingFrame ⟨0, 0, 0, 0, 0x03⟩ 3 [calm]).txbuf ∧
    encode .readRxStatus = listOfFrame (sendingFrame ⟨0, 0, 0, 0, 0xE7⟩ 3 [calm]).txbuf ∧
    encode .readTxStatus = listOfFrame (sendingFrame ⟨0, 0, 0, 0, 0xF7⟩ 3 [calm]).txbuf ∧
    encode (.setFreqFrame ⟨9, 9, 9, 9, 9, 9, 9, 9⟩) =
      listOfFrame (sendingFrame ⟨0x99, 0x99, 0x99, 0x99, 0x01⟩ 3 [calm]).txbuf := by decide

/-- The same clauses on a frame that is no row of the table. -/
theorem witness_EveryFrameIsSentByteByByte :
    (sendingFrame ⟨1, 2, 3, 4, 5⟩ 4 [calm]).pins.rst = false ∧ (sendingFrame ⟨1, 2, 3, 4, 5⟩ 4 [calm]).st = .sending ∧
    (sendingFrame ⟨1, 2, 3, 4, 5⟩ 4 [calm]).pins.txReady = true ∧
    (sendingFrame ⟨1, 2, 3, 4, 5⟩ 4 [stalled]).pins.txReady = false ∧
    (sendingFrame ⟨1, 2, 3, 4, 5⟩ 3 [calm]).txIdx < 4 ∧ (sendingFrame ⟨1, 2, 3, 4, 5⟩ 4 [calm]).txIdx = 4 ∧
    (sendingFrame ⟨1, 2, 3, 4, 5⟩ 4 [calm]).expLen = 0 ∧ 1 ≤ (exchange .sending .rawExchange 1 [calm]).expLen := by
  decide

theorem witness_FrameGoesOutInIndexOrder :
    4 < (sendingFrame ⟨1, 2, 3, 4, 5⟩ 0 (List.replicate 5 calm)).sched.length ∧
    (sendingFrame ⟨1, 2, 3, 4, 5⟩ 0 (List.replicate 5 calm)).txIdx = 0 ∧
    ∀ p ∈ (sendingFrame ⟨1, 2, 3, 4, 5⟩ 0 (List.replicate 5 calm)).sched.take (4 + 1),
      p.rst = false ∧ p.txReady = true := by decide

theorem witness_NothingIsSentOutsideSending :
    byteSent (sendingFrame ⟨1, 2, 3, 4, 5⟩ 4 [calm]) = some 5 := by decide

/-- In SENDING, and in AWAITING in the last cycle before the timeout. -/
theorem witness_ReplyByteIsCollected :
    (exchange .sending .getFreqMode 5 [rx 1]).pins.rst = false ∧
    (exchange .sending .getFreqMode 5 [rx 1]).pins.rxValid = true ∧
    (exchange .sending .getFreqMode 5 [rx 1]).st = .sending ∧
    ({ exchange .awaiting .getFreqMode 5 [rx 1] with tmr := 1000, rxCnt := 4 } : State).tmr < 1001 ∧
    ({ exchange .awaiting .getFreqMode 5 [rx 1] with tmr := 1000, rxCnt := 4 } : State).rxCnt <
      (exchange .awaiting .getFreqMode 5 [rx 1]).expLen ∧
    ({ exchange .awaiting .getFreqMode 5 [rx 1] with tmr := 1000, rxCnt := 4 } : State).rxCnt < 5 := by decide

/-- A dropped byte in AWAITING at the timeout, and a cycle without a byte. -/
theorem witness_UncollectedByteIsCounted :
    (∃ t, step { exchange .awaiting .getFreqMode 5 [rx 1] with tmr := 1001 } = .next t) ∧
    ¬((({ exchange .awaiting .getFreqMode 5 [rx 1] with tmr := 1001 } : State).st = .sending ∨
      (({ exchange .awaiting .getFreqMode 5 [rx 1] with tmr := 1001 } : State).st = .awaiting ∧
        ({ exchange .awaiting .getFreqMode 5 [rx 1] with tmr := 1001 } : State).tmr < 1001))) ∧
    (∃ t, step (inPhase .idle [calm]) = .next t) ∧ (inPhase .idle [calm]).pins.rxValid = false :=
  ⟨⟨_, rfl⟩, by decide, ⟨_, rfl⟩, by decide⟩

/-- Every branch: reset, a counted tick, the last byte sent, and any other cycle. -/
theorem witness_TimerCountsOnlyInAwaiting :
    (∃ t, step (inPhase .awaiting [resetting]) = .next t) ∧
    (∃ t, step { exchange .awaiting .getFreqMode 5 [ticking] with tmr := 1000 } = .next t) ∧
    (∃ t, step (exchange .sending .getFreqMode 5 [calm]) = .next t) ∧
    (∃ t, step (inPhase .idle [ticking]) = .next t) :=
  ⟨⟨_, rfl⟩, ⟨_, rfl⟩, ⟨_, rfl⟩, ⟨_, rfl⟩⟩

/-- Every clause: the tie, the timeout, and neither. -/
theorem witness_ReplyWinsTheRace :
    (exchange .awaiting .getRxStatus 1 [calm]).pins.rst = false ∧ (exchange .awaiting .getRxStatus 1 [calm]).st = .awaiting ∧
    ({ exchange .awaiting .getRxStatus 1 [calm] with rxCnt := 1, tmr := 1001 } : State).rxCnt =
      (exchange .awaiting .getRxStatus 1 [calm]).expLen ∧
    (exchange .awaiting .getRxStatus 1 [calm]).rxCnt < (exchange .awaiting .getRxStatus 1 [calm]).expLen ∧
    ({ exchange .awaiting .getRxStatus 1 [calm] with tmr := 1001 } : State).tmr = 1001 ∧
    (exchange .awaiting .getRxStatus 1 [calm]).tmr ≠ 1001 := by decide

theorem witness_GetFreqModeCompletes :
    (repliedWith .getFreqMode 5 zeroBytes).pins.rst = false ∧ (repliedWith .getFreqMode 5 zeroBytes).st = .replied ∧
    (repliedWith .getFreqMode 5 zeroBytes).op = .getFreqMode := by decide

theorem witness_GetRxStatusCompletes :
    (repliedWith .getRxStatus 1 zeroBytes).pins.rst = false ∧ (repliedWith .getRxStatus 1 zeroBytes).st = .replied ∧
    (repliedWith .getRxStatus 1 zeroBytes).op = .getRxStatus := by decide

theorem witness_GetTxStatusCompletes :
    (repliedWith .getTxStatus 1 zeroBytes).pins.rst = false ∧ (repliedWith .getTxStatus 1 zeroBytes).st = .replied ∧
    (repliedWith .getTxStatus 1 zeroBytes).op = .getTxStatus := by decide

theorem witness_RawExchangeCompletes :
    (repliedWith .rawExchange 3 zeroBytes).pins.rst = false ∧ (repliedWith .rawExchange 3 zeroBytes).st = .replied ∧
    (repliedWith .rawExchange 3 zeroBytes).op = .rawExchange := by decide

theorem witness_TimeoutCompletes :
    (exchange .timedOut .getRxStatus 1 [calm]).pins.rst = false ∧
    (exchange .timedOut .getRxStatus 1 [calm]).st = .timedOut := by decide

/-- What `State.Sound` asks, in a form that can be decided. -/
abbrev SoundCheck (s : State) : Prop :=
  ((s.st ≠ .unused6 ∧ s.st ≠ .unused7) ∧ (s.rxCnt ≤ s.expLen ∧ s.expLen ≤ 5) ∧ (1 ≤ s.chunkSize ∧ s.chunkSize ≤ 5) ∧
    (s.st = .sending → s.txIdx ≤ 4) ∧ (s.st = .awaiting → 1 ≤ s.expLen ∧ s.tmr ≤ 1001) ∧
    (s.st = .replied → s.rxCnt = s.expLen ∧ 1 ≤ s.expLen) ∧
    (s.st = .sending ∨ s.st = .awaiting ∨ s.st = .replied → 1 ≤ s.expLen → s.chunkSize = s.expLen) ∧
    (inExchange s.st = true → s.resOutcome = .none) ∧ (inExchange s.st = true → tailZero s.rxbuf s.rxCnt = true)) ∧
  (inExchange s.st = true → lengthFits s.op s.expLen = true) ∧
  (s.st = .timedOut → 1 ≤ s.expLen ∧ s.chunkSize = s.expLen) ∧
  (s.doneQ = true → (s.st = .idle ∨ s.st = .cfgErr) ∧ s.resOutcome ≠ .none) ∧
  (inExchange s.st = true → s.res = zeroResults)

theorem sound_of_check {s : State} (h : SoundCheck s) : s.Sound := by
  obtain ⟨⟨h1, h2, h3, h4, h5, h6, h7, h8, h9⟩, h10, h11, h12, h13⟩ := h
  exact ⟨⟨h1, h2, h3, h4, h5, h6, h7, h8, h9⟩, h10, h11, h12, h13⟩

/-- A sound state in the middle of an exchange, for StepKeepsSound and SoundRunsNeverStop. -/
theorem witness_StepKeepsSound :
    (exchange .awaiting .getFreqMode 5 [rx 1]).Sound ∧ ∃ t, step (exchange .awaiting .getFreqMode 5 [rx 1]) = .next t :=
  ⟨sound_of_check (by decide), _, rfl⟩

theorem witness_UnusedStatesFault :
    (inPhase .unused6 [calm]).pins.rst = false ∧ (inPhase .unused6 [calm]).st = .unused6 ∧
    (inPhase .unused7 [calm]).st = .unused7 := by decide

theorem witness_ParametersAreFixedForTheRun : ∃ t, step (inPhase .idle [ask 0]) = .next t := ⟨_, rfl⟩

/-- One step that completes with each outcome, both ways for OK; none of them is a reset cycle. -/
def completing : List State :=
  [repliedWith .getRxStatus 1 zeroBytes, inPhase .idle [ask 0x50000000030000000000],
   sendingFrame ⟨0, 0, 0, 0, 0x01⟩ 4 [calm], exchange .timedOut .getRxStatus 1 [calm],
   inPhase .idle [ask 0x082FAF08000000000000], repliedWith .getFreqMode 5 ⟨0x1A, 0, 0, 0, 0x03⟩,
   inPhase .cfgErr [ask 0], inPhase .idle [ask 0x60000000000000000000]]

/-- For EachOutcomeHasItsCause and CompletionRecords. -/
theorem witness_EachOutcomeHasItsCause :
    (∀ s ∈ completing, s.pins.rst = false) ∧
    completing.map (fun s => seen (fun t => (t.doneQ, t.resOutcome)) (step s)) =
      [some (true, .ok), some (true, .ok), some (true, .sent), some (true, .linkTimeout), some (true, .unreachableFreq),
       some (true, .formatError), some (true, .configError), some (true, .reqInvalid)] := by decide

/-- With the witness above, for CompletionRecords: every one of these states is sound. -/
theorem witness_CompletionRecords : ∀ s ∈ completing, s.Sound := by
  have h : ∀ s ∈ completing, SoundCheck s := by decide
  exact fun s hs => sound_of_check (h s hs)

/-- For TransitionsOfTheStateMachine: a step in reset, in each state of the machine, and in each case of IDLE, SENDING and
AWAITING. -/
theorem witness_TransitionsOfTheStateMachine :
    ([inPhase .awaiting [resetting], inPhase .idle [ask 0], inPhase .idle [ask 0x082FAF08000000000000],
      inPhase .idle [calm], sendingFrame zeroBytes 0 [calm], sendingFrame zeroBytes 4 [calm],
      exchange .sending .getFreqMode 5 [calm], { exchange .awaiting .getFreqMode 5 [calm] with rxCnt := 5 },
      { exchange .awaiting .getFreqMode 5 [calm] with tmr := 1001 }, exchange .awaiting .getFreqMode 5 [calm],
      repliedWith .getRxStatus 1 zeroBytes, exchange .timedOut .getRxStatus 1 [calm], inPhase .cfgErr [ask 0]].map
      (fun s => (s.pins.rst, seen (fun t => t.st) (step s)))) =
    [(true, some .idle), (false, some .sending), (false, some .idle), (false, some .idle), (false, some .sending),
     (false, some .idle), (false, some .awaiting), (false, some .replied), (false, some .timedOut),
     (false, some .awaiting), (false, some .idle), (false, some .idle), (false, some .cfgErr)] ∧
    startsExchange (inPhase .idle [ask 0]).params (ask 0).req = true ∧
    startsExchange (inPhase .idle [ask 0]).params (ask 0x082FAF08000000000000).req = false := by decide

/-- Both clauses: a step outside IDLE, and a sound exchange that completes. -/
theorem witness_ChunkSizeIsConsistent :
    (repliedWith .getRxStatus 1 zeroBytes).Sound ∧ (repliedWith .getRxStatus 1 zeroBytes).st ≠ .idle ∧
    (repliedWith .getRxStatus 1 zeroBytes).pins.rst = false ∧
    inExchange (repliedWith .getRxStatus 1 zeroBytes).st = true ∧ 1 ≤ (repliedWith .getRxStatus 1 zeroBytes).expLen ∧
    seen (fun t => t.doneQ) (step (repliedWith .getRxStatus 1 zeroBytes)) = some true :=
  ⟨sound_of_check (by decide), by decide⟩

theorem witness_ExchangeKeepsItsRequest :
    (exchange .awaiting .getFreqMode 5 [rx 1]).pins.rst = false ∧
    inExchange (exchange .awaiting .getFreqMode 5 [rx 1]).st = true ∧
    ∃ t, step (exchange .awaiting .getFreqMode 5 [rx 1]) = .next t := ⟨by decide, by decide, _, rfl⟩

/-- The conditions of the output clauses: the last byte in SENDING, SET_FREQ on the port in IDLE, and neither. -/
theorem witness_OutputsFollowTheRegisters :
    ((sendingFrame zeroBytes 4 [calm]).st = .sending ∧ (sendingFrame zeroBytes 4 [calm]).txIdx ≤ 4) ∧
    ((inPhase .idle [ask 0]).st = .idle ∧ (inPhase .idle [ask 0]).pins.req.op = 0) ∧
    (inPhase .awaiting [ask 0]).st ≠ .sending ∧ (inPhase .awaiting [ask 0]).st ≠ .idle := by decide

/-- TMR at 999, one tick before the last one. -/
theorem witness_TimeoutComesWithTick1001 :
    let s := { exchange .awaiting .getFreqMode 5 [ticking, ticking, calm, calm] with tmr := 999, rxCnt := 4 }
    s.st = .awaiting ∧ s.rxCnt < s.expLen ∧ s.sched = [ticking] ++ ticking :: calm :: calm :: [] ∧
    (∀ x ∈ [ticking] ++ [ticking, calm, calm], x.rst = false ∧ x.rxValid = false) ∧
    s.tmr.toNat + [ticking].countP (·.tick) = 1000 ∧ ticking.tick = true := by decide

theorem witness_RxStatusExchangeDecodesTheReply :
    let p0 := ask 0x20000000000000000000
    (inPhase .idle [p0, calm, calm, calm, calm, calm, rx 0x8B, calm, calm]).st = .idle ∧
    (inPhase .idle [p0, calm, calm, calm, calm, calm, rx 0x8B, calm, calm]).sched =
      p0 :: calm :: calm :: calm :: calm :: calm :: rx 0x8B :: calm :: calm :: [] ∧
    (∀ p ∈ [p0, calm, calm, calm, calm, calm, rx 0x8B, calm, calm], p.rst = false) ∧
    p0.reqValid = true ∧ p0.req.op = 2 ∧
    (∀ p ∈ [calm, calm, calm, calm, calm], p.txReady = true ∧ p.rxValid = false) ∧ (rx 0x8B).rxValid = true := by
  decide

theorem witness_SetFreqExchangeEndsInSent :
    let p0 := ask 0x0806F32CC00000000000
    (inPhase .idle [p0, rx 1, calm, calm, calm, calm]).st = .idle ∧
    (inPhase .idle [p0, rx 1, calm, calm, calm, calm]).sched = p0 :: rx 1 :: calm :: calm :: calm :: calm :: [] ∧
    (∀ p ∈ [p0, rx 1, calm, calm, calm, calm], p.rst = false) ∧
    p0.reqValid = true ∧ p0.req.op = 0 ∧ p0.req.freqPresent = true ∧
    validFreq (inPhase .idle [p0, rx 1, calm, calm, calm, calm]).params p0.req.freq = true ∧
    (∀ p ∈ [rx 1, calm, calm, calm, calm], p.txReady = true) := by decide

end Sys2Proof.Tests
end

/-! PROOFS. The parameters of a run: no operation of a cycle writes them (R14, R46). -/

namespace Sys2Proof.Machine

/-! ### The updates -/

@[simp] theorem resetCycle_params (s : State) : (resetCycle s).params = s.params := rfl

@[simp] theorem idleAfter_params (s : State) : (idleAfter s).params = s.params := rfl

@[simp] theorem acceptedAfter_params (op : HostOp) (s : State) : (acceptedAfter op s).params = s.params := rfl

/-! ### The cases of ST -/

@[simp] theorem send_params (s n : State) : (send s n).params = n.params := by
  rcases send_cases s n with ⟨_, h⟩ | ⟨_, _, h⟩ | ⟨_, _, _, h⟩ | ⟨_, _, _, h⟩ | ⟨_, _, h⟩ <;> simp [h]

@[simp] theorem await_params (s n : State) : (await s n).params = n.params := by
  rcases await_cases s n with ⟨_, h⟩ | ⟨_, _, h⟩ | ⟨_, _, h⟩ <;> simp [h]

@[simp] theorem timedOut_params (n : State) : (timedOut n).params = n.params := rfl

@[simp] theorem completeFreqMode_params (s n : State) : (completeFreqMode s n).params = n.params := by
  unfold completeFreqMode
  split <;> simp

@[simp] theorem completeRxStatus_params (s n : State) : (completeRxStatus s n).params = n.params := rfl

@[simp] theorem completeTxStatus_params (s n : State) : (completeTxStatus s n).params = n.params := rfl

@[simp] theorem completeRaw_params (n : State) : (completeRaw n).params = n.params := rfl

theorem replied_params {s n t : State} (h : replied s n = .next t) : t.params = n.params := by
  rcases replied_cases h with ⟨_, rfl⟩ | ⟨_, rfl⟩ | ⟨_, rfl⟩ | ⟨_, rfl⟩ <;> simp

/-! ### The cycles -/

theorem quietCycle_params {s t : State} (h : quietCycle s = .next t) : t.params = s.params := by
  rcases quietCycle_cases h with ⟨_, rfl⟩ | ⟨_, rfl⟩ | ⟨_, rfl⟩ | ⟨_, hreplied⟩ | ⟨_, rfl⟩
  · simp
  · simp
  · simp
  · simpa using replied_params hreplied
  · simp

theorem offeredAction_params {i : Instr} {n t : State} (h : offeredAction i n = .next t) : t.params = n.params := by
  rcases offeredAction_cases h with ⟨_, _, _, _, rfl⟩ | ⟨_, _, _, _, rfl⟩
  · simp
  · simp

/-- Settles O48, by the four cases of a step: the reset cycle is given the parameters, an accept starts an exchange or
completes at once, CFGERR completes at once, and the state machine alone writes registers only. -/
theorem parametersAreFixedForTheRun : Obligations.ParametersAreFixedForTheRun := by
  intro s t h
  rcases step_cases h with ⟨_, rfl⟩ | ⟨_, _, _, hoffered⟩ | ⟨_, _, _, rfl⟩ | ⟨_, _, hquiet⟩
  · simp
  · simpa using offeredAction_params hoffered
  · simp
  · exact quietCycle_params hquiet

end Sys2Proof.Machine

/-! PROOFS. Small facts about the cycle operations that the state's statements below share: one lemma per field of
`idleAfter` and `acceptedAfter`, and what `replied` and `byteAt` answer. -/

namespace Sys2Proof.Machine

@[simp] theorem idleAfter_st (s : State) : (idleAfter s).st = s.st := rfl
@[simp] theorem idleAfter_op (s : State) : (idleAfter s).op = s.op := rfl
@[simp] theorem idleAfter_txbuf (s : State) : (idleAfter s).txbuf = s.txbuf := rfl
@[simp] theorem idleAfter_txIdx (s : State) : (idleAfter s).txIdx = s.txIdx := rfl
@[simp] theorem idleAfter_expLen (s : State) : (idleAfter s).expLen = s.expLen := rfl
@[simp] theorem idleAfter_chunkSize (s : State) : (idleAfter s).chunkSize = s.chunkSize := rfl
@[simp] theorem idleAfter_rxbuf (s : State) : (idleAfter s).rxbuf = s.rxbuf := rfl
@[simp] theorem idleAfter_rxCnt (s : State) : (idleAfter s).rxCnt = s.rxCnt := rfl
@[simp] theorem idleAfter_tmr (s : State) : (idleAfter s).tmr = s.tmr := rfl
@[simp] theorem idleAfter_dropCnt (s : State) : (idleAfter s).dropCnt =
    if s.pins.rxValid then saturatingSucc s.dropCnt else s.dropCnt := rfl
@[simp] theorem idleAfter_doneQ (s : State) : (idleAfter s).doneQ = false := rfl
@[simp] theorem idleAfter_resOutcome (s : State) : (idleAfter s).resOutcome = s.resOutcome := rfl
@[simp] theorem idleAfter_res (s : State) : (idleAfter s).res = s.res := rfl
@[simp] theorem idleAfter_sched (s : State) : (idleAfter s).sched = s.sched.tail := rfl
@[simp] theorem idleAfter_cycle (s : State) : (idleAfter s).cycle = s.cycle + 1 := rfl

@[simp] theorem acceptedAfter_st (op : HostOp) (s : State) : (acceptedAfter op s).st = s.st := rfl
@[simp] theorem acceptedAfter_op (op : HostOp) (s : State) : (acceptedAfter op s).op = op := rfl
@[simp] theorem acceptedAfter_txbuf (op : HostOp) (s : State) : (acceptedAfter op s).txbuf = s.txbuf := rfl
@[simp] theorem acceptedAfter_txIdx (op : HostOp) (s : State) : (acceptedAfter op s).txIdx = s.txIdx := rfl
@[simp] theorem acceptedAfter_expLen (op : HostOp) (s : State) : (acceptedAfter op s).expLen = s.expLen := rfl
@[simp] theorem acceptedAfter_chunkSize (op : HostOp) (s : State) : (acceptedAfter op s).chunkSize = s.chunkSize := rfl
@[simp] theorem acceptedAfter_rxbuf (op : HostOp) (s : State) : (acceptedAfter op s).rxbuf = zeroBytes := rfl
@[simp] theorem acceptedAfter_rxCnt (op : HostOp) (s : State) : (acceptedAfter op s).rxCnt = 0 := rfl
@[simp] theorem acceptedAfter_tmr (op : HostOp) (s : State) : (acceptedAfter op s).tmr = s.tmr := rfl
@[simp] theorem acceptedAfter_dropCnt (op : HostOp) (s : State) : (acceptedAfter op s).dropCnt =
    if s.pins.rxValid then saturatingSucc s.dropCnt else s.dropCnt := rfl
@[simp] theorem acceptedAfter_doneQ (op : HostOp) (s : State) : (acceptedAfter op s).doneQ = false := rfl
@[simp] theorem acceptedAfter_resOutcome (op : HostOp) (s : State) : (acceptedAfter op s).resOutcome = .none := rfl
@[simp] theorem acceptedAfter_res (op : HostOp) (s : State) : (acceptedAfter op s).res = zeroResults := rfl
@[simp] theorem acceptedAfter_sched (op : HostOp) (s : State) : (acceptedAfter op s).sched = s.sched.tail := rfl
@[simp] theorem acceptedAfter_cycle (op : HostOp) (s : State) : (acceptedAfter op s).cycle = s.cycle + 1 := rfl

/-- Every completion action of REPLIED is a completion with an outcome that writes decoded results only (R132, R135). -/
theorem replied_eq_complete {s n t : State} (h : replied s n = .next t) :
    ∃ code res, code ≠ .none ∧ t = complete code { n with res := res } := by
  rcases replied_cases h with ⟨_, rfl⟩ | ⟨_, rfl⟩ | ⟨_, rfl⟩ | ⟨_, rfl⟩
  · unfold completeFreqMode
    split
    · exact ⟨.ok, _, by simp, rfl⟩
    · exact ⟨.formatError, n.res, by simp, rfl⟩
  · exact ⟨.ok, _, by simp, rfl⟩
  · exact ⟨.ok, _, by simp, rfl⟩
  · exact ⟨.ok, n.res, by simp, rfl⟩

/-- The five places of a five-byte buffer. -/
theorem place_cases {i : BitVec 3} (h : i < 5) : i = 0 ∨ i = 1 ∨ i = 2 ∨ i = 3 ∨ i = 4 := by
  bv_omega

/-- In the range of TX_IDX that R33 names, `tx_data` in SENDING is a byte of TXBUF and no free value (R45). -/
theorem byteAt_txIdx {s : State} (h : s.txIdx ≤ 4) : byteAt s.txbuf s.txIdx = some (txByte s) := by
  have hplace := place_cases (i := s.txIdx) (by bv_omega)
  unfold txByte
  rcases hplace with h | h | h | h | h <;> simp [h, byteAt]

theorem inExchange_of_rest {p : Phase} (h : p = .idle ∨ p = .cfgErr) : inExchange p = false := by
  rcases h with rfl | rfl <;> rfl

theorem inExchange_iff (p : Phase) :
    inExchange p = true ↔ p = .sending ∨ p = .awaiting ∨ p = .replied ∨ p = .timedOut := by
  cases p <;> simp [inExchange]

end Sys2Proof.Machine

/-! PROOFS. Soundness of the state (R49): a sound state is at rest, or in an exchange whose registers are as its accept
and its cycles so far have left them; every step leads from one of these to one of these. -/

namespace Sys2Proof.Machine

/-! ### Sound states at rest -/

/-- At rest, soundness is the lengths, the chunk size, and an outcome with the pulse. -/
theorem sound_of_rest {s : State} (hst : s.st = .idle ∨ s.st = .cfgErr) (hlen : s.rxCnt ≤ s.expLen ∧ s.expLen ≤ 5)
    (hchunk : 1 ≤ s.chunkSize ∧ s.chunkSize ≤ 5) (hdone : s.doneQ = true → s.resOutcome ≠ .none) : s.Sound := by
  have hout := inExchange_of_rest hst
  have hno : ∀ p, inExchange p = true → s.st ≠ p := fun p hp he => by simp [he, hp] at hout
  have hsending := hno .sending rfl
  have hawaiting := hno .awaiting rfl
  have hreplied := hno .replied rfl
  have htimedOut := hno .timedOut rfl
  refine ⟨⟨?_, hlen, hchunk, ?_, ?_, ?_, ?_, ?_, ?_⟩, ?_, ?_, fun hq => ⟨hst, hdone hq⟩, ?_⟩
  · rcases hst with h | h <;> simp [h]
  all_goals simp [State.OpInv, State.TimedInv, State.ClearedInv, hout, hsending, hawaiting, hreplied, htimedOut]

/-- A completion with an outcome leaves a sound state (R135). -/
theorem complete_sound {code : ResultCode} {n : State} (hcode : code ≠ .none)
    (hlen : n.rxCnt ≤ n.expLen ∧ n.expLen ≤ 5) (hchunk : 1 ≤ n.chunkSize ∧ n.chunkSize ≤ 5) :
    (complete code n).Sound := by
  refine sound_of_rest ?_ hlen hchunk fun _ => hcode
  by_cases h : n.st = .cfgErr <;> simp [h]

/-- An immediate completion, with EXP_LEN 0, leaves a sound state if no reply byte is counted (R120, R121). -/
theorem completeNow_sound {code : ResultCode} {n : State} (hcode : code ≠ .none) (hcnt : n.rxCnt = 0)
    (hchunk : 1 ≤ n.chunkSize ∧ n.chunkSize ≤ 5) : (completeNow code n).Sound :=
  complete_sound hcode (by simp [hcnt]) hchunk

/-- The registers of reset are sound, whatever the strap (R167, R168). -/
theorem resetRegisters_sound (configured : Bool) (params : Params) (sched : List Pins) (cycle : Nat) :
    (resetRegisters configured params sched cycle).Sound := by
  refine sound_of_rest ?_ (by decide : (0 : BitVec 3) ≤ 0 ∧ (0 : BitVec 3) ≤ 5)
    (by decide : (1 : BitVec 3) ≤ 1 ∧ (1 : BitVec 3) ≤ 5) (by simp [resetRegisters])
  cases configured <;> simp [resetRegisters]

/-! ### Sound states of an exchange -/

/-- What soundness says of the registers in every state of an exchange alike. -/
structure State.ExchangeInv (s : State) : Prop where
  lengths : s.rxCnt ≤ s.expLen ∧ s.expLen ≤ 5
  chunk : 1 ≤ s.chunkSize ∧ s.chunkSize ≤ 5
  framed : 1 ≤ s.expLen → s.chunkSize = s.expLen
  pending : s.resOutcome = .none
  clean : tailZero s.rxbuf s.rxCnt = true
  fits : lengthFits s.op s.expLen = true
  cleared : s.res = zeroResults
  quiet : s.doneQ = false

theorem State.Sound.exchangeInv {s : State} (h : s.Sound) (hx : inExchange s.st = true) : s.ExchangeInv where
  lengths := h.inv.lengths
  chunk := h.inv.chunk
  framed := by
    intro hlen
    rcases (inExchange_iff s.st).1 hx with hst | hst | hst | hst
    · exact h.inv.framed (.inl hst) hlen
    · exact h.inv.framed (.inr (.inl hst)) hlen
    · exact h.inv.framed (.inr (.inr hst)) hlen
    · exact (h.timed hst).2
  pending := h.inv.pending hx
  clean := h.inv.clean hx
  fits := h.opInv hx
  cleared := h.cleared hx
  quiet := by
    by_contra hq
    have hrest := (h.done (by simpa using hq)).1
    simp [inExchange_of_rest hrest] at hx

/-- With the condition its own state of the exchange adds, a state of an exchange is sound. -/
theorem State.ExchangeInv.sound {s : State} (h : s.ExchangeInv)
    (hst : (s.st = .sending ∧ s.txIdx ≤ 4) ∨ (s.st = .awaiting ∧ 1 ≤ s.expLen ∧ s.tmr ≤ 1001) ∨
      (s.st = .replied ∧ s.rxCnt = s.expLen ∧ 1 ≤ s.expLen) ∨ (s.st = .timedOut ∧ 1 ≤ s.expLen)) : s.Sound where
  inv :=
    { legal := by rcases hst with ⟨e, _⟩ | ⟨e, _⟩ | ⟨e, _⟩ | ⟨e, _⟩ <;> simp [e]
      lengths := h.lengths
      chunk := h.chunk
      sending := fun e => by simpa [e] using hst
      awaiting := fun e => by simpa [e] using hst
      replied := fun e => by simpa [e] using hst
      framed := fun _ => h.framed
      pending := fun _ => h.pending
      clean := fun _ => h.clean }
  opInv := fun _ => h.fits
  timed := fun e => by
    have hlen : 1 ≤ s.expLen := by simpa [e] using hst
    exact ⟨hlen, h.framed hlen⟩
  done := fun hq => by simp [h.quiet] at hq
  cleared := fun _ => h.cleared

/-- The state of the machine, the index and the timer are no part of it. -/
theorem State.ExchangeInv.withProgress {s : State} (h : s.ExchangeInv) (p : Phase) (i : BitVec 3) (m : BitVec 11) :
    State.ExchangeInv { s with st := p, txIdx := i, tmr := m } :=
  ⟨h.lengths, h.chunk, h.framed, h.pending, h.clean, h.fits, h.cleared, h.quiet⟩

/-- Storing the next reply byte leaves the places after it at 0x00 (R49, R126). -/
theorem tailZero_setByteAt {r : Bytes5} {cnt : BitVec 3} (b : Byte) (hcnt : cnt < 5) (h : tailZero r cnt = true) :
    tailZero (setByteAt r cnt b) (cnt + 1) = true := by
  rcases place_cases hcnt with rfl | rfl | rfl | rfl | rfl <;> simp_all [tailZero, setByteAt]

/-- A byte is collected only while the reply is short of EXP_LEN (R126). -/
theorem rxCnt_lt_of_collects {s : State} (h : collects s = true) : s.rxCnt < s.expLen := by
  simp only [collects, Bool.and_eq_true, decide_eq_true_eq] at h
  exact h.2

/-- The common writes of a cycle keep the exchange's registers in order: an arriving byte is stored in its place, or
dropped (R126, R127). -/
theorem State.ExchangeInv.after_beginCycle {s : State} (h : s.ExchangeInv) : (beginCycle s).ExchangeInv := by
  obtain ⟨⟨hcnt, hlen⟩, hchunk, hframed, hpending, hclean, hfits, hcleared, _⟩ := h
  have hcnt' : (beginCycle s).rxCnt ≤ s.expLen := by
    rw [beginCycle_rxCnt]
    split
    next hc =>
      have := rxCnt_lt_of_collects hc
      bv_omega
    next => exact hcnt
  have hclean' : tailZero (beginCycle s).rxbuf (beginCycle s).rxCnt = true := by
    rw [beginCycle_rxbuf, beginCycle_rxCnt]
    by_cases hc : collects s = true
    · have := rxCnt_lt_of_collects hc
      simpa only [if_pos hc] using tailZero_setByteAt s.pins.rxData (by bv_omega) hclean
    · simpa only [if_neg hc] using hclean
  exact ⟨by simpa only [beginCycle_expLen] using ⟨hcnt', hlen⟩, by simpa using hchunk, by simpa using hframed,
    by simpa using hpending, hclean', by simpa using hfits, by simpa using hcleared, beginCycle_doneQ s⟩

/-- StartExchange on an accepted request begins a sound exchange (R120, R121). -/
theorem startExchange_sound {op : HostOp} {s : State} (frame : Bytes5) {len : BitVec 3} (hlen : len ≤ 5)
    (hfits : lengthFits op len = true) (hchunk : 1 ≤ s.chunkSize ∧ s.chunkSize ≤ 5) :
    (startExchange frame len (acceptedAfter op s)).Sound := by
  refine State.ExchangeInv.sound ⟨⟨Nat.zero_le _, hlen⟩, ?_, fun h => if_pos h, rfl, rfl, hfits, rfl, rfl⟩
    (.inl ⟨rfl, Nat.zero_le _⟩)
  rw [startExchange_chunkSize]
  split
  · exact ⟨‹1 ≤ len›, hlen⟩
  · exact hchunk

/-! ### The cycles -/

/-- The timer stops at TIMEOUT_TICKS (R129). -/
theorem beginCycle_tmr_le {s : State} (h : s.tmr ≤ 1001) : (beginCycle s).tmr ≤ 1001 := by
  rw [beginCycle_tmr]
  by_cases hc : timerCounts s = true
  · have hlt : s.tmr < 1001 := by
      simp only [timerCounts, Bool.and_eq_true, decide_eq_true_eq] at hc
      exact hc.2
    rw [if_pos hc]
    bv_omega
  · rwa [if_neg hc]

theorem send_sound {s : State} (h : s.Sound) (hst : s.st = .sending) : (send s (beginCycle s)).Sound := by
  have hx := (h.exchangeInv (by simp [inExchange, hst])).after_beginCycle
  have hidx := h.inv.sending hst
  have hstay : (beginCycle s).Sound := hx.sound (.inl (by simpa using ⟨hst, hidx⟩))
  rcases send_cases s (beginCycle s) with ⟨_, e⟩ | ⟨_, hlt, e⟩ | ⟨_, _, _, e⟩ | ⟨_, _, hlen, e⟩ | ⟨_, _, e⟩ <;> rw [e]
  · exact hstay
  · exact (hx.withProgress _ (s.txIdx + 1) _).sound (.inl ⟨by simpa using hst, by simp only; bv_omega⟩)
  · exact complete_sound (by simp) hx.lengths hx.chunk
  · exact (hx.withProgress .awaiting _ 0).sound (.inr (.inl ⟨rfl, by simp only [beginCycle_expLen]; bv_omega, by simp⟩))
  · exact hstay

theorem await_sound {s : State} (h : s.Sound) (hst : s.st = .awaiting) : (await s (beginCycle s)).Sound := by
  have hx := (h.exchangeInv (by simp [inExchange, hst])).after_beginCycle
  obtain ⟨hlen, htmr⟩ := h.inv.awaiting hst
  rcases await_cases s (beginCycle s) with ⟨heq, e⟩ | ⟨_, _, e⟩ | ⟨_, _, e⟩ <;> rw [e]
  · have hfull : ¬ collects s = true := fun hc => by
      have := rxCnt_lt_of_collects hc
      bv_omega
    exact (hx.withProgress .replied _ _).sound (.inr (.inr (.inl ⟨rfl, by simp [hfull, heq], by simpa using hlen⟩)))
  · exact (hx.withProgress .timedOut _ _).sound (.inr (.inr (.inr ⟨rfl, by simpa using hlen⟩)))
  · exact hx.sound (.inr (.inl ⟨by simpa using hst, by simpa using hlen, beginCycle_tmr_le htmr⟩))

theorem quietCycle_sound {s t : State} (h : s.Sound) (hq : quietCycle s = .next t) : t.Sound := by
  have hlen := h.inv.lengths
  have hchunk := h.inv.chunk
  rcases quietCycle_cases hq with ⟨hst, rfl⟩ | ⟨hst, rfl⟩ | ⟨hst, rfl⟩ | ⟨_, hreplied⟩ | ⟨_, rfl⟩
  · exact sound_of_rest hst hlen hchunk (by simp)
  · exact send_sound h hst
  · exact await_sound h hst
  · obtain ⟨code, res, hcode, rfl⟩ := replied_eq_complete hreplied
    exact complete_sound hcode hlen hchunk
  · exact complete_sound (by simp) ⟨Nat.zero_le _, hlen.2⟩ hchunk

theorem offeredAction_sound {i : Instr} {s t : State} (hchunk : 1 ≤ s.chunkSize ∧ s.chunkSize ≤ 5)
    (h : offeredAction i (acceptedAfter (offeredOp i) s) = .next t) : t.Sound := by
  rcases offeredAction_cases h with ⟨frame, len, hlen, hfits, rfl⟩ | ⟨code, len, hcode, hlen, rfl⟩
  · exact startExchange_sound frame hlen hfits hchunk
  · refine completeNow_sound hcode rfl ?_
    rcases hlen with rfl | hlen
    · exact hchunk
    · exact hlen

/-- Settles O45, by the four cases of a step: the registers of reset are sound, an accept starts a sound exchange or
completes, CFGERR completes, and the state machine alone keeps an exchange in order or completes it. -/
theorem stepKeepsSound : Obligations.StepKeepsSound := by
  intro s t h hstep
  rcases step_cases hstep with ⟨_, rfl⟩ | ⟨_, _, _, hoffered⟩ | ⟨_, _, _, rfl⟩ | ⟨_, _, hquiet⟩
  · exact resetRegisters_sound _ _ _ _
  · exact offeredAction_sound h.inv.chunk hoffered
  · exact completeNow_sound (by simp) rfl h.inv.chunk
  · exact quietCycle_sound h hquiet

/-- Settles O17, the base of `stepKeepsSound`. -/
theorem resetStatesAreSound : Obligations.ResetStatesAreSound :=
  ⟨resetRegisters_sound _ _ _ _, resetRegisters_sound⟩

end Sys2Proof.Machine

/-! PROOFS. The request of an exchange: OP, TXBUF and EXP_LEN are written by an accept and by reset only (R31, R32, R34). -/

namespace Sys2Proof.Machine

/-- The registers that hold the request of the exchange under way (R31, R32, R34). -/
def heldRequest (s : State) : HostOp × Bytes5 × BitVec 3 := (s.op, s.txbuf, s.expLen)

theorem heldRequest_eq_iff (s t : State) :
    heldRequest t = heldRequest s ↔ t.op = s.op ∧ t.txbuf = s.txbuf ∧ t.expLen = s.expLen := by
  simp [heldRequest]

@[simp] theorem heldRequest_beginCycle (s : State) : heldRequest (beginCycle s) = heldRequest s := by
  simp [heldRequest]

@[simp] theorem heldRequest_idleAfter (s : State) : heldRequest (idleAfter s) = heldRequest s := rfl

@[simp] theorem heldRequest_complete (code : ResultCode) (n : State) :
    heldRequest (complete code n) = heldRequest n := rfl

@[simp] theorem heldRequest_send (s n : State) : heldRequest (send s n) = heldRequest n := by
  rcases send_cases s n with ⟨_, e⟩ | ⟨_, _, e⟩ | ⟨_, _, _, e⟩ | ⟨_, _, _, e⟩ | ⟨_, _, e⟩ <;> rw [e] <;> rfl

@[simp] theorem heldRequest_await (s n : State) : heldRequest (await s n) = heldRequest n := by
  rcases await_cases s n with ⟨_, e⟩ | ⟨_, _, e⟩ | ⟨_, _, e⟩ <;> rw [e] <;> rfl

@[simp] theorem heldRequest_timedOut (n : State) : heldRequest (timedOut n) = heldRequest n := rfl

theorem heldRequest_replied {s n t : State} (h : replied s n = .next t) : heldRequest t = heldRequest n := by
  obtain ⟨code, res, _, rfl⟩ := replied_eq_complete h
  rfl

theorem heldRequest_quietCycle {s t : State} (h : quietCycle s = .next t) : heldRequest t = heldRequest s := by
  rcases quietCycle_cases h with ⟨_, rfl⟩ | ⟨_, rfl⟩ | ⟨_, rfl⟩ | ⟨_, hreplied⟩ | ⟨_, rfl⟩
  · simp
  · simp
  · simp
  · simpa using heldRequest_replied hreplied
  · simp

/-- Settles O53: in an exchange the step is the state machine's cycle, which no case of ST lets write the request. -/
theorem exchangeKeepsItsRequest : Obligations.ExchangeKeepsItsRequest := by
  intro s t hrst hx hstep
  have hrest : ¬ (s.st = .idle ∨ s.st = .cfgErr) := fun h => by simp [inExchange_of_rest h] at hx
  rw [step_busy hrst (fun e => hrest (.inl e)) (fun e => hrest (.inr e))] at hstep
  exact (heldRequest_eq_iff s t).1 (heldRequest_quietCycle hstep)

end Sys2Proof.Machine

/-! PROOFS. The ports: the bytes on the channel (R25, R51), the outputs (R45), the request port (R62, R119). -/

namespace Sys2Proof.Machine

/-! ### The channel -/

theorem byteSent_eq_some_iff (s : State) (b : Byte) :
    byteSent s = some b ↔ (s.st = .sending ∧ s.pins.rst = false ∧ s.pins.txReady = true) ∧ txByte s = b := by
  have hdata (h : s.st = .sending) : txData s = txByte s := if_pos h
  simp only [byteSent, txValid, Option.ite_none_right_eq_some, Bool.and_eq_true, Bool.not_eq_true', decide_eq_true_eq,
    Option.some.injEq]
  constructor
  · rintro ⟨⟨⟨hrst, hst⟩, hready⟩, rfl⟩
    exact ⟨⟨hst, hrst, hready⟩, (hdata hst).symm⟩
  · rintro ⟨⟨hst, hrst, hready⟩, rfl⟩
    exact ⟨⟨⟨hrst, hst⟩, hready⟩, hdata hst⟩

/-- Settles O35. -/
theorem nothingIsSentOutsideSending : Obligations.NothingIsSentOutsideSending :=
  fun s b h => ((byteSent_eq_some_iff s b).1 h).1

/-- A cycle of SENDING in which the channel takes a byte before the last one (R123). -/
theorem step_sending_next {s : State} (hst : s.st = .sending) (hrst : s.pins.rst = false)
    (hready : s.pins.txReady = true) (hidx : s.txIdx < 4) :
    step s = .next { beginCycle s with txIdx := s.txIdx + 1 } := by
  rw [step_busy hrst (by simp [hst]) (by simp [hst])]
  have hsend : send s (beginCycle s) = { beginCycle s with txIdx := s.txIdx + 1 } := by
    rw [send, if_pos hready, if_pos hidx]
  simp only [quietCycle, hst, hsend]

/-- The pins of the cycle `k` cycles further on are the schedule's. -/
theorem pins_mem_take {s t : State} {k : Nat} (hk : k < s.sched.length) (h : t.sched = s.sched.drop k) :
    t.pins ∈ s.sched.take (k + 1) := by
  rw [pins_of_sched (h.trans (List.drop_eq_getElem_cons hk))]
  exact List.mem_take_iff_getElem.2 ⟨k, by omega, rfl⟩

/-- After `k` ready cycles of SENDING, at most 4, byte `k` of the same frame is on offer and the schedule is `k` cycles
further on. -/
theorem run_sending (s : State) (k : Nat) (hk : k ≤ 4) (hst : s.st = .sending) (hidx : s.txIdx = 0)
    (hsched : k ≤ s.sched.length) (hpins : ∀ p ∈ s.sched.take k, p.rst = false ∧ p.txReady = true) :
    ∃ t : State, Host.Core.run Sys2Proof.core k s = .next t ∧ t.st = .sending ∧ t.txIdx = BitVec.ofNat 3 k ∧
      t.txbuf = s.txbuf ∧ t.sched = s.sched.drop k := by
  induction k with
  | zero => exact ⟨s, rfl, hst, hidx, rfl, rfl⟩
  | succ k ih =>
    obtain ⟨t, hrun, htst, htidx, httxbuf, htsched⟩ := ih (by omega) (by omega)
      fun p hp => hpins p (List.take_subset_take_left _ (Nat.le_succ k) hp)
    obtain ⟨hrst, hready⟩ := hpins t.pins (pins_mem_take (by omega) htsched)
    have hlt : t.txIdx < 4 := by rw [htidx]; bv_omega
    have hstep := step_sending_next htst hrst hready hlt
    refine ⟨_, (run_add _ k 1 s t hrun).trans (run_succ hstep), by simpa using htst, ?_, by simpa using httxbuf, ?_⟩
    · simp only [htidx]
      bv_omega
    · simp [htsched]

/-- Settles O34, by `run_sending`: the frame's bytes before byte `k` take `k` cycles, and in the next one the channel
takes byte `k`. -/
theorem frameGoesOutInIndexOrder : Obligations.FrameGoesOutInIndexOrder := by
  intro s k hk hst hidx hsched hpins
  obtain ⟨t, hrun, htst, htidx, httxbuf, htsched⟩ := run_sending s k hk hst hidx (by omega)
    fun p hp => hpins p (List.take_subset_take_left _ (Nat.le_succ k) hp)
  obtain ⟨hrst, hready⟩ := hpins t.pins (pins_mem_take hsched htsched)
  refine ⟨t, hrun, ?_⟩
  calc byteSent t = some (txByte t) := (byteSent_eq_some_iff t _).2 ⟨⟨htst, hrst, hready⟩, rfl⟩
    _ = byteAt t.txbuf t.txIdx := (byteAt_txIdx (by rw [htidx]; bv_omega)).symm
    _ = byteAt s.txbuf (BitVec.ofNat 3 k) := by rw [httxbuf, htidx]

/-! ### The other outputs -/

/-- Settles O54, one output at a time. -/
theorem outputsFollowTheRegisters : Obligations.OutputsFollowTheRegisters := by
  intro s
  refine ⟨rfl, ?busy, rfl, ?byte, ?noByte, ?lookup, ?noLookup⟩
  case busy => simp [State.outputs, restPhase]
  case byte =>
    intro hst hidx
    simpa [State.outputs, txData, hst] using byteAt_txIdx hidx
  case noByte =>
    intro hst
    exact if_neg hst
  case lookup =>
    intro h
    calc vfFreq s = effectiveFreq (if s.pins.req.freqPresent then some s.pins.req.freq else none) := if_pos h
      _ = _ := by cases s.pins.req.freqPresent <;> rfl
  case noLookup =>
    intro h
    exact if_neg h

/-! ### The request port -/

/-- The bytes of a request decode to the instruction its fields name (R76, R77; log 14). -/
theorem decode_encodeRequest (r : Request) : decode (encodeRequest r) = .ok (decodeRequest r) := by
  have hpad : ((wordOfRequest r).extractLsb' 72 8).msb = false := by
    simp [BitVec.msb_eq_getLsbD_last]
  simp only [encodeRequest, listOfRequestWord, decode, hpad, requestWordOfBytes_listOfRequestWord,
    requestOfWord_wordOfRequest]
  rfl

/-- Settles O18: the cycle fetches the instruction of the port's fields, which is the one their bytes decode to. -/
theorem stepRunsTheOfferedRequest : Obligations.StepRunsTheOfferedRequest := by
  intro s i hrst hst hvalid hdecode
  obtain rfl : decodeRequest s.pins.req = i := by simpa [decode_encodeRequest] using hdecode
  have hfetch : fetch s = .run (decodeRequest s.pins.req) := by
    rcases hst with hst | hst <;> simp [fetch, hrst, hst, fetchRequest, hvalid]
  rw [step, hfetch]

end Sys2Proof.Machine

/-! PROOFS. The request port while the engine is busy: the cycle's reset and the state machine read the other pins only
(R62, R119, R174). -/

namespace Sys2Proof.Machine

/-- The state with other signals on the request port in this cycle. A cycle the schedule does not list has free pins,
which stay as they are (log 1). -/
def State.withRequestPort (v : Bool) (r : Request) (s : State) : State :=
  match s.sched with
  | [] => s
  | p :: rest => { s with sched := { p with reqValid := v, req := r } :: rest }

theorem withRequestPort_of_sched {s : State} {p : Pins} {rest : List Pins} (v : Bool) (r : Request)
    (h : s.sched = p :: rest) :
    s.withRequestPort v r = { s with sched := { p with reqValid := v, req := r } :: rest } := by
  simp [State.withRequestPort, h]

/-! ### What stays: the registers, the other pins, the coming cycles -/

/-- Only this cycle's entry of the schedule is another one. -/
theorem withRequestPort_eq (v : Bool) (r : Request) (s : State) :
    s.withRequestPort v r = { s with sched := (s.withRequestPort v r).sched } := by
  unfold State.withRequestPort
  split <;> rfl

section
variable (v : Bool) (r : Request) (s n : State)

@[simp] theorem withRequestPort_st : (s.withRequestPort v r).st = s.st := by rw [withRequestPort_eq]
@[simp] theorem withRequestPort_op : (s.withRequestPort v r).op = s.op := by rw [withRequestPort_eq]
@[simp] theorem withRequestPort_txIdx : (s.withRequestPort v r).txIdx = s.txIdx := by rw [withRequestPort_eq]
@[simp] theorem withRequestPort_expLen : (s.withRequestPort v r).expLen = s.expLen := by rw [withRequestPort_eq]
@[simp] theorem withRequestPort_rxbuf : (s.withRequestPort v r).rxbuf = s.rxbuf := by rw [withRequestPort_eq]
@[simp] theorem withRequestPort_rxCnt : (s.withRequestPort v r).rxCnt = s.rxCnt := by rw [withRequestPort_eq]
@[simp] theorem withRequestPort_tmr : (s.withRequestPort v r).tmr = s.tmr := by rw [withRequestPort_eq]
@[simp] theorem withRequestPort_dropCnt : (s.withRequestPort v r).dropCnt = s.dropCnt := by rw [withRequestPort_eq]
@[simp] theorem withRequestPort_res : (s.withRequestPort v r).res = s.res := by rw [withRequestPort_eq]
@[simp] theorem withRequestPort_params : (s.withRequestPort v r).params = s.params := by rw [withRequestPort_eq]
@[simp] theorem withRequestPort_cycle : (s.withRequestPort v r).cycle = s.cycle := by rw [withRequestPort_eq]

@[simp] theorem withRequestPort_sched_tail : (s.withRequestPort v r).sched.tail = s.sched.tail := by
  unfold State.withRequestPort
  split
  next => rfl
  next h => simp [h]

/-- The pins of the cycle are the same but for the request port. -/
theorem withRequestPort_pins :
    (s.withRequestPort v r).pins =
      { s.pins with
        reqValid := (s.withRequestPort v r).pins.reqValid
        req := (s.withRequestPort v r).pins.req } := by
  unfold State.withRequestPort
  split
  next => rfl
  next h => rw [pins_of_sched h, pins_of_sched rfl]

@[simp] theorem withRequestPort_rst : (s.withRequestPort v r).pins.rst = s.pins.rst := by
  rw [withRequestPort_pins]

@[simp] theorem withRequestPort_chanConfigured :
    (s.withRequestPort v r).pins.chanConfigured = s.pins.chanConfigured := by
  rw [withRequestPort_pins]

@[simp] theorem withRequestPort_txReady : (s.withRequestPort v r).pins.txReady = s.pins.txReady := by
  rw [withRequestPort_pins]

@[simp] theorem withRequestPort_rxValid : (s.withRequestPort v r).pins.rxValid = s.pins.rxValid := by
  rw [withRequestPort_pins]

@[simp] theorem withRequestPort_rxData : (s.withRequestPort v r).pins.rxData = s.pins.rxData := by
  rw [withRequestPort_pins]

@[simp] theorem withRequestPort_tick : (s.withRequestPort v r).pins.tick = s.pins.tick := by
  rw [withRequestPort_pins]

/-! ### The operations of a cycle -/

@[simp] theorem nextCycle_withRequestPort : nextCycle (s.withRequestPort v r) = nextCycle s := by
  unfold nextCycle
  rw [withRequestPort_sched_tail, withRequestPort_eq]

@[simp] theorem collects_withRequestPort : collects (s.withRequestPort v r) = collects s := by
  simp [collects]

@[simp] theorem timerCounts_withRequestPort : timerCounts (s.withRequestPort v r) = timerCounts s := by
  simp [timerCounts]

@[simp] theorem beginCycle_withRequestPort : beginCycle (s.withRequestPort v r) = beginCycle s := by
  simp [beginCycle, timerHandle, rxHandle]

@[simp] theorem send_withRequestPort : send (s.withRequestPort v r) n = send s n := by
  simp [send]

@[simp] theorem await_withRequestPort : await (s.withRequestPort v r) n = await s n := by
  simp [await]

@[simp] theorem replied_withRequestPort : replied (s.withRequestPort v r) n = replied s n := by
  simp [replied, completeFreqMode, completeRxStatus, completeTxStatus]

/-- The state machine alone does not read the request port (R118). -/
@[simp] theorem quietCycle_withRequestPort : quietCycle (s.withRequestPort v r) = quietCycle s := by
  simp [quietCycle]

/-- Reset does not read the request port (R158). -/
@[simp] theorem resetCycle_withRequestPort : resetCycle (s.withRequestPort v r) = resetCycle s := by
  simp [resetCycle]

end

/-! ### The step -/

/-- Reset over everything (R158). -/
theorem step_rst {s : State} (h : s.pins.rst = true) : step s = .next (resetCycle s) := by
  have hfetch : fetch s = .reset := if_pos h
  rw [step, hfetch]

/-- Outside IDLE and CFGERR a step does not depend on the request port: it is the reset cycle or the state machine's
cycle (R119). -/
theorem step_withRequestPort {s : State} (v : Bool) (r : Request) (hidle : s.st ≠ .idle) (hcfg : s.st ≠ .cfgErr) :
    step (s.withRequestPort v r) = step s := by
  cases hrst : s.pins.rst with
  | true =>
    calc step (s.withRequestPort v r) = .next (resetCycle (s.withRequestPort v r)) := step_rst (by simpa using hrst)
      _ = .next (resetCycle s) := by rw [resetCycle_withRequestPort]
      _ = step s := (step_rst hrst).symm
  | false =>
    calc step (s.withRequestPort v r) = quietCycle (s.withRequestPort v r) :=
          step_busy (by simpa using hrst) (by simpa using hidle) (by simpa using hcfg)
      _ = quietCycle s := quietCycle_withRequestPort v r s
      _ = step s := (step_busy hrst hidle hcfg).symm

/-- Settles O30: the two states differ in the request port only, and a busy engine's step does not
depend on it. -/
theorem busyEngineIgnoresTheRequestPort : Obligations.BusyEngineIgnoresTheRequestPort := by
  intro s p rest v r hsched hidle hcfg
  rw [← withRequestPort_of_sched v r hsched]
  exact (step_withRequestPort v r hidle hcfg).symm

end Sys2Proof.Machine

/-! PROOFS. The encodings: an instruction's bytes are those of one wire frame or of one request word, and the decoder
reads them back (R64 to R70, R76, R77, R84). -/

namespace Sys2Proof

/-! ### Byte strings: five bytes are a frame, ten a request word -/

/-- Five bytes are decoded as a frame (R64). -/
@[simp] theorem decode_listOfFrame (f : Bytes5) : decode (listOfFrame f) = decodeFrame f := rfl

/-- The ten bytes of a request word are decoded as the request of its fields (R76; log 14). -/
@[simp] theorem decode_listOfRequestWord (q : BitVec 79) :
    decode (listOfRequestWord q) = .ok (decodeRequest (requestOfWord q)) := by
  have hpad : (q.extractLsb' 72 8).msb = false := by simp [BitVec.msb_eq_getLsbD_last]
  simp [listOfRequestWord, decode, hpad, requestWordOfBytes_listOfRequestWord]

theorem listOfFrame_injective : Function.Injective listOfFrame := by
  rintro ⟨b0, b1, b2, b3, b4⟩ ⟨c0, c1, c2, c3, c4⟩ h
  simpa [listOfFrame] using h

/-- A request word is no frame: it has ten bytes, a frame five. -/
theorem encodeRequest_ne_listOfFrame (r : Request) (f : Bytes5) : encodeRequest r ≠ listOfFrame f :=
  fun h => absurd (congrArg List.length h) (by simp [encodeRequest, listOfRequestWord, listOfFrame])

/-! ### The frame decoder, opcode by opcode -/

theorem decodeFrame_setFreq {f : Bytes5} (h : f.b4 = 0x01) :
    decodeFrame f = .ok (.setFreqFrame (payloadDigits f)) := by
  simp [decodeFrame, h]

theorem decodeFrame_readFreqMode {f : Bytes5} (h : f.b4 = 0x03) :
    decodeFrame f = if zeroPayload f then .ok .readFreqMode else .error .nonzeroPayload := by
  simp [decodeFrame, h]

theorem decodeFrame_readRxStatus {f : Bytes5} (h : f.b4 = 0xE7) :
    decodeFrame f = if zeroPayload f then .ok .readRxStatus else .error .nonzeroPayload := by
  simp [decodeFrame, h]

theorem decodeFrame_readTxStatus {f : Bytes5} (h : f.b4 = 0xF7) :
    decodeFrame f = if zeroPayload f then .ok .readTxStatus else .error .nonzeroPayload := by
  simp [decodeFrame, h]

theorem decodeFrame_unknown {f : Bytes5} (h01 : f.b4 ≠ 0x01) (h03 : f.b4 ≠ 0x03) (hE7 : f.b4 ≠ 0xE7)
    (hF7 : f.b4 ≠ 0xF7) : decodeFrame f = .error .unknownOpcode := by
  rw [decodeFrame, if_neg h01, if_neg h03, if_neg hE7, if_neg hF7]

theorem zeroPayload_iff (f : Bytes5) : zeroPayload f = true ↔ f.b0 = 0 ∧ f.b1 = 0 ∧ f.b2 = 0 ∧ f.b3 = 0 := by
  simp [zeroPayload, and_assoc]

/-- Settles O5: each opcode's equation of the frame decoder, with a payload that is not zero under a read opcode. -/
theorem otherFramesAreRejectedByName : Obligations.OtherFramesAreRejectedByName := by
  refine fun f => ⟨decodeFrame_unknown, fun hopcode hpayload => ?_⟩
  rw [← zeroPayload_iff] at hpayload
  rcases hopcode with h | h | h
  · rw [decodeFrame_readFreqMode h, if_neg hpayload]
  · rw [decodeFrame_readRxStatus h, if_neg hpayload]
  · rw [decodeFrame_readTxStatus h, if_neg hpayload]

/-! ### Frames and their instructions -/

theorem payloadDigits_frameOfDigits (ds : Digits) : payloadDigits (frameOfDigits ds) = ds := by
  simp [payloadDigits, frameOfDigits, highNibble_byteOfNibbles, lowNibble_byteOfNibbles]

/-- The digits of a set-frequency frame are all of its payload (R70). -/
theorem frameOfDigits_payloadDigits {f : Bytes5} (h : f.b4 = 0x01) : frameOfDigits (payloadDigits f) = f := by
  simp [payloadDigits, frameOfDigits, byteOfNibbles_nibbles, ← h]

/-- A frame with a zero payload is its opcode's read frame (R67, R68, R69). -/
theorem eq_frameOfOpcode {f : Bytes5} {opcode : Byte} (hopcode : f.b4 = opcode) (hzero : zeroPayload f = true) :
    f = frameOfOpcode opcode := by
  obtain ⟨b0, b1, b2, b3, b4⟩ := f
  obtain ⟨h0, h1, h2, h3⟩ := (zeroPayload_iff _).1 hzero
  simp_all [frameOfOpcode]

/-- A frame that decodes under a read opcode is the encoding of the opcode's instruction. -/
theorem encode_of_decodeFrame_read {f : Bytes5} {opcode : Byte} {i j : Instr} (hopcode : f.b4 = opcode)
    (hj : encode j = listOfFrame (frameOfOpcode opcode))
    (hf : decodeFrame f = if zeroPayload f then .ok j else .error .nonzeroPayload) (h : decodeFrame f = .ok i) :
    encode i = listOfFrame f := by
  rw [hf] at h
  cases hzero : zeroPayload f with
  | false => simp [hzero] at h
  | true =>
    obtain rfl : j = i := by simpa [hzero] using h
    rw [hj, ← eq_frameOfOpcode hopcode hzero]

/-- A frame that decodes is the encoding of what it decodes to: no bit of it is dropped. -/
theorem encode_of_decodeFrame {f : Bytes5} {i : Instr} (h : decodeFrame f = .ok i) : encode i = listOfFrame f := by
  by_cases h01 : f.b4 = 0x01
  · obtain rfl : .setFreqFrame (payloadDigits f) = i := by simpa [decodeFrame_setFreq h01] using h
    exact congrArg listOfFrame (frameOfDigits_payloadDigits h01)
  by_cases h03 : f.b4 = 0x03
  · exact encode_of_decodeFrame_read h03 rfl (decodeFrame_readFreqMode h03) h
  by_cases hE7 : f.b4 = 0xE7
  · exact encode_of_decodeFrame_read hE7 rfl (decodeFrame_readRxStatus hE7) h
  by_cases hF7 : f.b4 = 0xF7
  · exact encode_of_decodeFrame_read hF7 rfl (decodeFrame_readTxStatus hF7) h
  · simp [decodeFrame_unknown h01 h03 hE7 hF7] at h

/-- Every encoding is that of a frame or of a request that decodes to the instruction. -/
theorem encode_cases (i : Instr) :
    (∃ f, encode i = listOfFrame f ∧ decodeFrame f = .ok i) ∨ (∃ r, encode i = encodeRequest r ∧ decodeRequest r = i) := by
  cases i with
  | setFreqFrame ds =>
    exact .inl ⟨frameOfDigits ds, rfl, by rw [decodeFrame_setFreq rfl, payloadDigits_frameOfDigits]⟩
  | readFreqMode => exact .inl ⟨_, rfl, decodeFrame_readFreqMode rfl⟩
  | readRxStatus => exact .inl ⟨_, rfl, decodeFrame_readRxStatus rfl⟩
  | readTxStatus => exact .inl ⟨_, rfl, decodeFrame_readTxStatus rfl⟩
  | setFreq freq => cases freq <;> exact .inr ⟨_, rfl, rfl⟩
  | getFreqMode => exact .inr ⟨_, rfl, rfl⟩
  | getRxStatus => exact .inr ⟨_, rfl, rfl⟩
  | getTxStatus => exact .inr ⟨_, rfl, rfl⟩
  | rawExchange frame len => exact .inr ⟨_, rfl, rfl⟩
  | configFraming len => exact .inr ⟨_, rfl, rfl⟩
  | reserved6 => exact .inr ⟨_, rfl, rfl⟩
  | reserved7 => exact .inr ⟨_, rfl, rfl⟩

/-- Settles O1, by the two kinds of encoding. The round trip holds of every digit the payload can hold, so the
well-formedness of the instruction is not used (log 13). -/
theorem decodeEncodeAgree : Obligations.DecodeEncodeAgree := by
  intro i _
  rcases encode_cases i with ⟨f, hencode, hdecode⟩ | ⟨r, hencode, hdecode⟩
  · rw [hencode, decode_listOfFrame, hdecode]
  · rw [hencode, Machine.decode_encodeRequest, hdecode]

/-- Settles O4: a frame's bytes determine the frame, and no request's bytes are a frame's. -/
theorem frameDecodesExactlyToItsEncoding : Obligations.FrameDecodesExactlyToItsEncoding := by
  refine fun f i => ⟨encode_of_decodeFrame, fun h => ?_⟩
  rcases encode_cases i with ⟨g, hencode, hdecode⟩ | ⟨r, hencode, _⟩
  · obtain rfl : g = f := listOfFrame_injective (hencode.symm.trans h)
    exact hdecode
  · exact absurd (hencode.symm.trans h) (encodeRequest_ne_listOfFrame r f)

/-! ### Request words -/

/-- A request's instruction is offered as the operation of `req_op` (R77). -/
theorem offeredOp_decodeRequest (r : Request) : Machine.offeredOp (decodeRequest r) = hostOpOfCode r.op := by
  unfold decodeRequest
  split <;> simp_all [Machine.offeredOp]

/-- Settles O3: the word's fields are the request's, and `req_op` selects the instruction. -/
theorem everyRequestWordDecodes : Obligations.EveryRequestWordDecodes := by
  intro q
  have select {c : BitVec 3} (h : q.extractLsb' 76 3 = c) : hostOpOfCode (requestOfWord q).op = hostOpOfCode c :=
    congrArg hostOpOfCode h
  refine ⟨decodeRequest (requestOfWord q), decode_listOfRequestWord q, ?code, ?_, ?_, ?_, ?_, ?_, ?_, ?_, ?_⟩
  case code => rw [offeredOp_decodeRequest, hostOpCode_hostOpOfCode, requestOfWord]
  all_goals
    intro h
    rw [decodeRequest, select h]
    rfl

/-- Settles O2, by evaluating the decoder on the eight words. -/
theorem wordsDecodeAsWritten : Obligations.WordsDecodeAsWritten := by
  unfold Obligations.WordsDecodeAsWritten
  decide

end Sys2Proof

/-! PROOFS. The set-frequency frame of the builder (R93), and the frames and words as the engine runs them (R75, R119). -/

namespace Sys2Proof.Machine

/-! ### The frame of a frequency -/

/-- Digits8 gives decimal digits (R85, R87). -/
theorem digits8_decimal (f : BitVec 32) : (digits8 f).decimal = true := by
  simp only [Digits.decimal, digits8, decimalDigit_le, decide_true, Bool.and_self]

/-- BcdPack takes every pair of decimal digits (R86). -/
theorem bcdPack_of_le {t u : Nibble} (ht : t ≤ 9) (hu : u ≤ 9) : bcdPack t u = some (byteOfNibbles t u) :=
  if_pos ⟨ht, hu⟩

/-- The builder's frame of decimal digits is the frame of R66 and R70; BcdPack does not fail. -/
theorem frameOfPackedDigits_of_decimal {ds : Digits} (h : ds.decimal = true) :
    frameOfPackedDigits ds = some (frameOfDigits ds) := by
  simp only [Digits.decimal, Bool.and_eq_true, decide_eq_true_eq] at h
  obtain ⟨⟨⟨⟨⟨⟨⟨h0, h1⟩, h2⟩, h3⟩, h4⟩, h5⟩, h6⟩, h7⟩ := h
  simp only [frameOfPackedDigits, bcdPack_of_le h0 h1, bcdPack_of_le h2 h3, bcdPack_of_le h4 h5, bcdPack_of_le h6 h7]
  rfl

/-- FrameSetFreq never reaches BcdPack's FormatError (R87, R93). -/
theorem frameSetFreq_eq (f : BitVec 32) : frameSetFreq f = some (frameOfDigits (digits8 f)) :=
  frameOfPackedDigits_of_decimal (digits8_decimal f)

/-- Settles O8. The digits are decimal for every 32-bit frequency, so the bound FREQ_MAX is not used. -/
theorem setFreqFrameIsItsEncoding : Obligations.SetFreqFrameIsItsEncoding :=
  fun f _ => ⟨frameSetFreq_eq f, rfl, digits8_decimal f⟩

/-! ### The default frequency -/

/-- The default frequency is 14575000 (R82, R94). -/
theorem effectiveFreq_none : effectiveFreq none = effectiveFreq (some 14575000) := rfl

/-- Settles O23: SET_FREQ depends on its operand by the effective frequency alone. -/
theorem defaultFrequencyIs14575000 : Obligations.DefaultFrequencyIs14575000 := by
  intro s
  calc exec (.setFreq none) s = requestCycle .setFreq (acceptSetFreq (effectiveFreq none)) s := rfl
    _ = requestCycle .setFreq (acceptSetFreq (effectiveFreq (some 14575000))) s := by rw [effectiveFreq_none]
    _ = exec (.setFreq (some 14575000)) s := rfl

/-! ### Bare frames -/

theorem acceptRaw_of_le {len : BitVec 3} (h : len ≤ 5) (frame : Bytes5) (n : State) :
    acceptRaw frame len n = .next (startExchange frame len n) :=
  if_pos ((rawLengthLegal_iff len).2 h)

theorem replyLength_le (opcode : Byte) : replyLength opcode ≤ 5 := by
  unfold replyLength
  split_ifs <;> decide

/-- A bare frame's cycle is the cycle of RAW_EXCHANGE with the frame and its own reply length (R74, R75; log 3). -/
theorem wireCycle_eq_rawExchange (frame : Bytes5) (s : State) :
    wireCycle frame s = exec (.rawExchange frame (replyLength frame.b4)) s := by
  have haction : acceptRaw frame (replyLength frame.b4) =
      fun n => .next (startExchange frame (replyLength frame.b4) n) :=
    funext (acceptRaw_of_le (replyLength_le frame.b4) frame)
  rw [exec_requestCycle, wireCycle, ← haction]
  rfl

/-- A bare frame in IDLE starts the exchange of the frame, with the frame's own reply length. -/
theorem wireCycle_idle (frame : Bytes5) {s : State} (h : s.st = .idle) :
    ∃ t : State, wireCycle frame s = .next t ∧ t.st = .sending ∧ t.txbuf = frame ∧ t.expLen = replyLength frame.b4 :=
  ⟨_, requestCycle_idle h, rfl, rfl, rfl⟩

/-- Settles O28: each wire row is the bare cycle of its frame, with the reply length of its opcode. -/
theorem bareFramesEnterAsRawExchange : Obligations.BareFramesEnterAsRawExchange :=
  fun ds s h =>
    ⟨wireCycle_idle (frameOfDigits ds) h, wireCycle_idle frameReadFreqMode h, wireCycle_idle frameReadRxStatus h,
      wireCycle_idle frameReadTxStatus h, wireCycle_eq_rawExchange (frameOfDigits ds) s,
      wireCycle_eq_rawExchange frameReadFreqMode s, wireCycle_eq_rawExchange frameReadRxStatus s,
      wireCycle_eq_rawExchange frameReadTxStatus s⟩

/-! ### The frame on the wire -/

theorem fetch_sending {s : State} (hrst : s.pins.rst = false) (hst : s.st = .sending) : fetch s = fetchFrame s := by
  simp [fetch, hrst, hst]

/-- Settles O19: in SENDING the cycle fetches the frame in TXBUF. -/
theorem stepRunsTheFrameOnTheWire : Obligations.StepRunsTheFrameOnTheWire := by
  intro s hrst hst
  refine ⟨fun i h => ?_, fun e h => ?_⟩
  · rw [decode_listOfFrame] at h
    rw [step, fetch_sending hrst hst, fetchFrame, h]
  · rw [decode_listOfFrame] at h
    rw [step, fetch_sending hrst hst, fetchFrame, h]

/-! ### Placed words -/

theorem instrOfResult_eq_some {r : Except DecodeError Instr} {i : Instr} (h : instrOfResult r = some i) : r = .ok i := by
  cases r <;> simp_all [instrOfResult]

/-- A word of 40 bits is placed in TXBUF, in SENDING, and the next cycle is no reset cycle (log 4). -/
theorem withFetchWord_frame (s : State) (w : Nat) :
    (s.withFetchWord 40 w).pins.rst = false ∧ (s.withFetchWord 40 w).st = .sending ∧
    (s.withFetchWord 40 w).txbuf = frameOfWord (BitVec.ofNat 40 w) :=
  ⟨rfl, rfl, rfl⟩

/-- A word of 80 bits is placed on the request port, in a state that takes it (log 2). -/
theorem withFetchWord_request (s : State) (w : Nat) :
    (s.withFetchWord 80 w).pins.rst = false ∧
    ((s.withFetchWord 80 w).st = .idle ∨ (s.withFetchWord 80 w).st = .cfgErr) ∧
    (s.withFetchWord 80 w).pins.reqValid = true ∧
    (s.withFetchWord 80 w).pins.req = requestOfWord (BitVec.ofNat 79 w) := by
  refine ⟨rfl, ?_, rfl, rfl⟩
  by_cases h : s.st = .cfgErr
  · exact .inr (if_pos h)
  · exact .inl (if_neg h)

/-- Settles O20: a placed frame is the one on the wire, a placed request the one on the port. -/
theorem placedWordRunsNext : Obligations.PlacedWordRunsNext := by
  refine fun s w i => ⟨fun h => ?frame, fun h => ?request⟩
  case frame =>
    obtain ⟨hrst, hst, htxbuf⟩ := withFetchWord_frame s w
    apply (stepRunsTheFrameOnTheWire _ hrst hst).1
    rw [htxbuf]
    exact instrOfResult_eq_some h
  case request =>
    obtain ⟨hrst, hst, hvalid, hreq⟩ := withFetchWord_request s w
    apply stepRunsTheOfferedRequest _ i hrst hst hvalid
    rw [hreq, decode_encodeRequest, ← decode_listOfRequestWord]
    exact instrOfResult_eq_some h

end Sys2Proof.Machine

/-! PROOFS. The codec of 40_codec.md: the decimal digits of a frequency (R85, R91), and the packing of two digits in a byte
(R86 to R88). -/

namespace Sys2Proof.Machine

/-! ### The value of a list of digits -/

@[simp] theorem decValue_nil : decValue [] = 0 := rfl

/-- One more digit multiplies the value by ten and adds the digit (R91). -/
theorem decValue_concat (ds : List Nibble) (d : Nibble) : decValue (ds ++ [d]) = decValue ds * 10 + d.toNat := by
  simp [decValue]

/-- If the digits so far are those of weight `w * 10` and above, the digit of weight `w` continues them. -/
theorem decValue_concat_decimalDigit {ds : List Nibble} {f w : Nat} (h : decValue ds = f / (w * 10)) :
    decValue (ds ++ [decimalDigit f w]) = f / w := by
  rw [decValue_concat, decimalDigit_toNat, h, ← Nat.div_div_eq_div_mul, Nat.div_add_mod']

/-- The digits of Digits8, most significant first, are the decimal form of a number of at most eight digits (R85, R91).
The proof builds the list a digit at a time: after the digit of weight `w` the value is `f / w`. -/
theorem decValue_digits8 {f : BitVec 32} (h : f.toNat ≤ 99999999) :
    decValue [(digits8 f).d0, (digits8 f).d1, (digits8 f).d2, (digits8 f).d3,
              (digits8 f).d4, (digits8 f).d5, (digits8 f).d6, (digits8 f).d7] = f.toNat := by
  have start : decValue [] = f.toNat / (10000000 * 10) := by
    rw [decValue_nil, Nat.div_eq_of_lt (by omega)]
  have d0 := decValue_concat_decimalDigit (w := 10000000) start
  have d1 := decValue_concat_decimalDigit (w := 1000000) d0
  have d2 := decValue_concat_decimalDigit (w := 100000) d1
  have d3 := decValue_concat_decimalDigit (w := 10000) d2
  have d4 := decValue_concat_decimalDigit (w := 1000) d3
  have d5 := decValue_concat_decimalDigit (w := 100) d4
  have d6 := decValue_concat_decimalDigit (w := 10) d5
  have d7 := decValue_concat_decimalDigit (w := 1) d6
  rw [Nat.div_one] at d7
  exact d7

/-- Settles O6: the digits are decimal, each is its formula, and their value is the frequency. -/
theorem digits8IsTheDecimalForm : Obligations.Digits8IsTheDecimalForm :=
  fun f h =>
    ⟨digits8_decimal f, decimalDigit_toNat _ _, decimalDigit_toNat _ _, decimalDigit_toNat _ _, decimalDigit_toNat _ _,
      decimalDigit_toNat _ _, decimalDigit_toNat _ _, decimalDigit_toNat _ _, decimalDigit_toNat _ _, decValue_digits8 h⟩

/-! ### Two digits in a byte -/

theorem byteOfNibbles_toNat (t u : Nibble) : (byteOfNibbles t u).toNat = 16 * t.toNat + u.toNat := by
  have hhigh := highNibble_toNat (byteOfNibbles t u)
  have hlow := lowNibble_toNat (byteOfNibbles t u)
  rw [highNibble_byteOfNibbles] at hhigh
  rw [lowNibble_byteOfNibbles] at hlow
  omega

/-- Any other nibble is BcdPack's FormatError (R87). -/
theorem bcdPack_of_not_le {t u : Nibble} (h : ¬(t ≤ 9 ∧ u ≤ 9)) : bcdPack t u = none :=
  if_neg h

/-- Unpacking takes a packed byte apart, whatever its nibbles (R88). -/
theorem bcdUnpack_byteOfNibbles (t u : Nibble) : bcdUnpack (byteOfNibbles t u) = (t, u) := by
  rw [bcdUnpack, highNibble_byteOfNibbles, lowNibble_byteOfNibbles]

theorem bcdOk_byteOfNibbles (t u : Nibble) : bcdOk (byteOfNibbles t u) = decide (t ≤ 9 ∧ u ≤ 9) := by
  rw [bcdOk, highNibble_byteOfNibbles, lowNibble_byteOfNibbles, Bool.decide_and]

/-- Settles O7, by the two branches of BcdPack. -/
theorem bcdPackUnpack : Obligations.BcdPackUnpack := by
  refine fun t u => ⟨fun h => ?decimal, fun h => ?other⟩
  case decimal =>
    obtain ⟨ht, hu⟩ := h
    exact ⟨byteOfNibbles t u, bcdPack_of_le ht hu, byteOfNibbles_toNat t u, bcdUnpack_byteOfNibbles t u,
      (bcdOk_byteOfNibbles t u).trans (decide_eq_true ⟨ht, hu⟩)⟩
  case other =>
    exact ⟨bcdPack_of_not_le h, (bcdOk_byteOfNibbles t u).trans (decide_eq_false h)⟩

end Sys2Proof.Machine

/-! PROOFS. The decoders of 42_response_decoder.md: the digits and fields of a frequency reply (R101 to R105, R116), the
fields of the two status bytes (R106 to R112, R114), and the S-meter text (R109). -/

namespace Sys2Proof.Machine

/-! ### The digits of a reply -/

/-- A frame's bytes read as a reply have the digits of its payload (R70, R101). -/
theorem replyDigits_frameOfDigits (ds : Digits) : replyDigits (frameOfDigits ds) = ds :=
  payloadDigits_frameOfDigits ds

/-- As a reply, a frame of digits has freq_ok if they are decimal (R66, R102). -/
theorem freqOk_frameOfDigits (ds : Digits) : freqOk (frameOfDigits ds) = ds.decimal := by
  simp only [freqOk, frameOfDigits, bcdOk_byteOfNibbles, Digits.decimal, Bool.decide_and, Bool.and_assoc]

/-- freq_ok in the bytes' values; the mode id is never checked (R102). -/
theorem freqOk_iff (r : Bytes5) :
    freqOk r = true ↔
      (r.b0.toNat / 16 ≤ 9 ∧ r.b0.toNat % 16 ≤ 9) ∧ (r.b1.toNat / 16 ≤ 9 ∧ r.b1.toNat % 16 ≤ 9) ∧
      (r.b2.toNat / 16 ≤ 9 ∧ r.b2.toNat % 16 ≤ 9) ∧ (r.b3.toNat / 16 ≤ 9 ∧ r.b3.toNat % 16 ≤ 9) := by
  simp only [freqOk, Bool.and_eq_true, bcdOk_iff, and_assoc]

/-! ### RES_FREQ_BCD -/

/-- The low eight nibbles of a word, bits 31:28 first (R55). -/
def wordDigits {n : Nat} (w : BitVec n) : Digits :=
  ⟨w.extractLsb' 28 4, w.extractLsb' 24 4, w.extractLsb' 20 4, w.extractLsb' 16 4,
   w.extractLsb' 12 4, w.extractLsb' 8 4, w.extractLsb' 4 4, w.extractLsb' 0 4⟩

/-- RES_FREQ_BCD holds the digits of the reply in order (R55, R103). The width stays the sum `8 + 8 + 8 + 8`, in which
the lemmas about `++` see the bytes. -/
theorem wordDigits_replyFreqBcd (r : Bytes5) : wordDigits (replyFreqBcd r) = replyDigits r := by
  change wordDigits (n := 8 + 8 + 8 + 8) (r.b0 ++ r.b1 ++ r.b2 ++ r.b3) = replyDigits r
  simp [wordDigits, replyDigits, bcdUnpack, highNibble, lowNibble,
    BitVec.extractLsb'_append_eq_of_add_le, BitVec.extractLsb'_append_eq_of_le, -Nat.reduceAdd]

/-- Settles O9: the frame's digits are the frequency's, and RES_FREQ_BCD holds the frame's digits. They are decimal for
every 32-bit frequency, so its validity is not used. -/
theorem frequencyRoundTrip : Obligations.FrequencyRoundTrip := by
  intro ps f old _
  have hdigits : wordDigits (decodeFreqMode (frameOfDigits (digits8 f)) old).freqBcd = digits8 f :=
    (wordDigits_replyFreqBcd _).trans (replyDigits_frameOfDigits _)
  exact ⟨frameOfDigits (digits8 f), frameSetFreq_eq f, (freqOk_frameOfDigits _).trans (digits8_decimal f),
    congrArg Digits.d0 hdigits, congrArg Digits.d1 hdigits, congrArg Digits.d2 hdigits, congrArg Digits.d3 hdigits,
    congrArg Digits.d4 hdigits, congrArg Digits.d5 hdigits, congrArg Digits.d6 hdigits, congrArg Digits.d7 hdigits, rfl⟩

/-! ### The values of the digits in their registers -/

/-- Three decimal digits fit in ten bits (R91, R104). -/
theorem toNat_decValue_three {a b c : Nibble} {x y z : Nat} (ha : a.toNat = x) (hb : b.toNat = y) (hc : c.toNat = z)
    (hx : x ≤ 9) (hy : y ≤ 9) (hz : z ≤ 9) :
    (BitVec.ofNat 10 (decValue [a, b, c])).toNat = 100 * x + 10 * y + z := by
  simp only [BitVec.toNat_ofNat, decValue, List.foldl]
  omega

/-- Two decimal digits fit in seven bits (R91, R104). -/
theorem toNat_decValue_two {a b : Nibble} {x y : Nat} (ha : a.toNat = x) (hb : b.toNat = y) (hx : x ≤ 9) (hy : y ≤ 9) :
    (BitVec.ofNat 7 (decValue [a, b])).toNat = 10 * x + y := by
  simp only [BitVec.toNat_ofNat, decValue, List.foldl]
  omega

/-- Settles O10: the digits are decimal, so RES_MHZ (d0 to d2), RES_KHZ (d3 to d5) and RES_HZ (d6, d7) hold their values
uncut, and the ranges follow. -/
theorem freqModeFields : Obligations.FreqModeFields := by
  intro r old hok
  obtain ⟨⟨h0, h1⟩, ⟨h2, h3⟩, ⟨h4, h5⟩, h6, h7⟩ := (freqOk_iff r).1 hok
  have hmhz : (decodeFreqMode r old).mhz.toNat = _ :=
    toNat_decValue_three (highNibble_toNat r.b0) (lowNibble_toNat r.b0) (highNibble_toNat r.b1) h0 h1 h2
  have hkhz : (decodeFreqMode r old).khz.toNat = _ :=
    toNat_decValue_three (lowNibble_toNat r.b1) (highNibble_toNat r.b2) (lowNibble_toNat r.b2) h3 h4 h5
  have hhz : (decodeFreqMode r old).hz.toNat = _ :=
    toNat_decValue_two (highNibble_toNat r.b3) (lowNibble_toNat r.b3) h6 h7
  exact ⟨rfl, hmhz, hkhz, hhz, by omega, by omega, by omega, rfl, fun _ => hok, rfl⟩

/-! ### The receiver status -/

/-- The squelch flag is the top bit of the byte (R106). -/
theorem squelchFlag_eq (b : Byte) : squelchFlag b = decide (128 ≤ b.toNat) :=
  BitVec.msb_eq_decide b

/-- The S-meter value is the low nibble of the byte (R107). -/
theorem smeterField_toNat (b : Byte) : (smeterField b).toNat = b.toNat % 16 :=
  lowNibble_toNat b

theorem smeterField_eq (b : Byte) : smeterField b = BitVec.ofNat 4 (b.toNat % 16) := by
  rw [← smeterField_toNat, BitVec.ofNat_toNat, BitVec.setWidth_eq]

/-- No value above S9 is cut to the six bits of RES_S_OVER_DB (R108). -/
theorem overS9_toNat (s : BitVec 4) : (overS9 s).toNat = if s.toNat ≤ 9 then 0 else (s.toNat - 9) * 10 := by
  revert s
  decide

/-- Settles O11: each field is its formula on the byte's value. -/
theorem rxStatusFields : Obligations.RxStatusFields := by
  refine fun b old => ⟨overS9 (smeterField b), ?overDb, ?fields⟩
  case overDb => rw [overS9_toNat, smeterField_toNat]
  case fields => rw [decodeRxStatus, squelchFlag_eq, smeterField_eq]

/-- The receiver-status decoder reads bits 7 and 3 to 0 only (R106, R107, R114). -/
theorem decodeRxStatus_and_mask (b : Byte) (old : Results) : decodeRxStatus (b &&& 0x8F) old = decodeRxStatus b old := by
  have hsquelch : squelchFlag (b &&& 0x8F) = squelchFlag b := by simp [squelchFlag, byteBits]
  have hmask : BitVec.extractLsb' 0 4 (0x8F : Byte) = BitVec.allOnes 4 := by decide
  have hsmeter : smeterField (b &&& 0x8F) = smeterField b := by
    simp only [smeterField, byteBits, BitVec.extractLsb'_and, hmask, BitVec.and_allOnes]
  rw [decodeRxStatus, hsquelch, hsmeter, decodeRxStatus]

/-! ### The transmitter status -/

@[simp] theorem polarFlag_setMeansTrue (bit : Bool) : polarFlag .setMeansTrue bit = bit := rfl

@[simp] theorem polarFlag_clearMeansTrue (bit : Bool) : polarFlag .clearMeansTrue bit = !bit := rfl

/-- The polarity applies to bits 6 and 5, and the PTT bit is inverted under both (R16, R110 to R112). -/
theorem decodeTxStatus_eq (p : TxsPolarity) (b : Byte) (old : Results) :
    decodeTxStatus p b old =
      { old with ptt := !b.getLsbD 7, hiswr := polarFlag p (b.getLsbD 6), split := polarFlag p (b.getLsbD 5) } := rfl

/-- Settles O12, by the two polarities. -/
theorem txStatusFlags : Obligations.TxStatusFlags := by
  refine fun b old => ⟨?setMeansTrue, ?clearMeansTrue⟩
  case setMeansTrue => rw [decodeTxStatus_eq, polarFlag_setMeansTrue, polarFlag_setMeansTrue]
  case clearMeansTrue => rw [decodeTxStatus_eq, polarFlag_clearMeansTrue, polarFlag_clearMeansTrue]

/-- The transmitter-status decoder reads bits 7 to 5 only (R114). -/
theorem decodeTxStatus_and_mask (p : TxsPolarity) (b : Byte) (old : Results) :
    decodeTxStatus p (b &&& 0xE0) old = decodeTxStatus p b old := by
  simp [decodeTxStatus_eq]

/-- Settles O13: each decoder gives the same results on the byte with its unused bits cleared. -/
theorem unusedStatusBitsIgnored : Obligations.UnusedStatusBitsIgnored := by
  refine fun b b' p old => ⟨fun h => ?rx, fun h => ?tx⟩
  case rx => rw [← decodeRxStatus_and_mask b, h, decodeRxStatus_and_mask]
  case tx => rw [← decodeTxStatus_and_mask p b, h, decodeTxStatus_and_mask]

/-! ### The S-meter text -/

/-- Settles O14, by evaluating SmeterText on its sixteen arguments. -/
theorem smeterTextTable : Obligations.SmeterTextTable := by
  unfold Obligations.SmeterTextTable
  decide

end Sys2Proof.Machine

/-! PROOFS. The cycle of each state of the machine, forward: what `step` answers in IDLE and CFGERR without a request, in
SENDING, in AWAITING and in TIMEDOUT (R117, R118), and the statements that are that answer. -/

namespace Sys2Proof.Machine

/-! ### Completions -/

/-- In CFGERR a completion leaves the state of the machine (R134, R135). -/
theorem complete_of_cfgErr {n : State} (h : n.st = .cfgErr) (code : ResultCode) :
    complete code n = { n with resOutcome := code, doneQ := true } := by
  rw [complete, if_pos h, ← h]

/-- In every other state it leads to IDLE (R135). -/
theorem complete_of_ne_cfgErr {n : State} (h : n.st ≠ .cfgErr) (code : ResultCode) :
    complete code n = { n with resOutcome := code, doneQ := true, st := .idle } := by
  simp [complete, h]

/-- Settles O29: every meaning is a request cycle, which CFGERR answers with CONFIG_ERROR. -/
theorem cfgErrAnswersConfigError : Obligations.CfgErrAnswersConfigError := by
  intro i s hst
  rw [exec_requestCycle, requestCycle_cfgErr hst, completeNow, complete_of_cfgErr (by simpa using hst)]
  rfl

/-! ### At rest -/

theorem fetch_rest {s : State} (hrst : s.pins.rst = false) (hst : s.st = .idle ∨ s.st = .cfgErr) :
    fetch s = fetchRequest s := by
  rcases hst with hst | hst <;> simp [fetch, hrst, hst]

theorem quietCycle_rest {s : State} (hst : s.st = .idle ∨ s.st = .cfgErr) : quietCycle s = .next (idleAfter s) := by
  rcases hst with hst | hst <;> simp [quietCycle, hst, beginCycle_idleAfter]

/-- Settles O31: no instruction is fetched, and the state machine's own cycle is `idleAfter`. -/
theorem restKeepsTheResults : Obligations.RestKeepsTheResults := by
  intro s hrst hst hvalid
  have hfetch : fetch s = .quiet := by simp [fetch_rest hrst hst, fetchRequest, hvalid]
  rw [step, hfetch]
  exact quietCycle_rest hst

/-! ### The states with no transition -/

/-- Settles O47: neither is IDLE or CFGERR, so the step is the state machine's cycle, which faults there (R138). -/
theorem unusedStatesFault : Obligations.UnusedStatesFault := by
  intro s hrst hst
  rcases hst with hst | hst <;> rw [step_busy hrst (by simp [hst]) (by simp [hst]), quietCycle, hst]

/-! ### Sending -/

theorem collects_iff (s : State) :
    collects s = true ↔
      s.pins.rxValid = true ∧ (s.st = .sending ∨ (s.st = .awaiting ∧ s.tmr < 1001)) ∧ s.rxCnt < s.expLen := by
  simp only [collects, Bool.and_eq_true, Bool.or_eq_true, decide_eq_true_eq, and_assoc]
  rfl

theorem timerCounts_iff (s : State) :
    timerCounts s = true ↔ s.st = .awaiting ∧ s.pins.tick = true ∧ s.tmr < 1001 := by
  simp only [timerCounts, Bool.and_eq_true, decide_eq_true_eq, and_assoc]
  rfl

/-- In SENDING a cycle's common writes are those of `sendingAfter`. -/
theorem beginCycle_sending {s : State} (hst : s.st = .sending) : beginCycle s = sendingAfter s := by
  have hcollects : collects s = (s.pins.rxValid && decide (s.rxCnt < s.expLen)) := by simp [collects, hst]
  rw [beginCycle_eq, hcollects, timerCounts_false s (by simp [hst])]
  cases hv : s.pins.rxValid <;> by_cases hlt : s.rxCnt < s.expLen <;> simp [sendingAfter, hv, hlt]

theorem quietCycle_sending {s : State} (hst : s.st = .sending) : quietCycle s = .next (send s (sendingAfter s)) := by
  simp only [quietCycle, hst, beginCycle_sending hst]

theorem send_held {s : State} (hready : s.pins.txReady = false) (n : State) : send s n = n := by
  simp [send, hready]

theorem send_next {s : State} (hready : s.pins.txReady = true) (hidx : s.txIdx < 4) (n : State) :
    send s n = { n with txIdx := s.txIdx + 1 } := by
  rw [send, if_pos hready, if_pos hidx]

theorem send_last {s : State} (hready : s.pins.txReady = true) (hidx : s.txIdx = 4) (n : State) :
    send s n = if s.expLen = 0 then complete .sent n else { n with st := .awaiting, tmr := 0 } := by
  rw [send, if_pos hready, if_neg (by simp [hidx]), if_pos hidx]

/-- The cycle of SENDING: held (R122), the next byte (R123), the last byte without a reply awaited (R124) and with one
(R125). -/
theorem quietCycle_sends {s : State} (hst : s.st = .sending) :
    (s.pins.txReady = false → quietCycle s = .next (sendingAfter s)) ∧
    (s.pins.txReady = true → s.txIdx < 4 → quietCycle s = .next { sendingAfter s with txIdx := s.txIdx + 1 }) ∧
    (s.pins.txReady = true → s.txIdx = 4 → s.expLen = 0 →
      quietCycle s = .next { sendingAfter s with st := .idle, resOutcome := .sent, doneQ := true }) ∧
    (s.pins.txReady = true → s.txIdx = 4 → 1 ≤ s.expLen →
      quietCycle s = .next { sendingAfter s with st := .awaiting, tmr := 0 }) := by
  rw [quietCycle_sending hst]
  refine ⟨fun hready => ?held, fun hready hidx => ?next, fun hready hidx hlen => ?sent, fun hready hidx hlen => ?awaits⟩
  case held => rw [send_held hready]
  case next => rw [send_next hready hidx]
  case sent =>
    have hcfg : (sendingAfter s).st ≠ .cfgErr := by simp [sendingAfter, hst]
    rw [send_last hready hidx, if_pos hlen, complete_of_ne_cfgErr hcfg]
  case awaits => rw [send_last hready hidx, if_neg (by bv_omega)]

/-- Settles O32: in SENDING the meaning of every instruction is the state machine's cycle. -/
theorem wireFrameIsSentByteByByte : Obligations.WireFrameIsSentByteByByte := by
  intro i s hst _ _
  rw [exec_requestCycle, requestCycle_busy (by simp [hst]) (by simp [hst])]
  exact quietCycle_sends hst

/-- Settles O33: the step is the same cycle, whatever the frame decodes to. -/
theorem everyFrameIsSentByteByByte : Obligations.EveryFrameIsSentByteByByte := by
  intro s hrst hst
  rw [step_busy hrst (by simp [hst]) (by simp [hst])]
  exact quietCycle_sends hst

/-! ### Waiting -/

/-- Everything AWAITING writes of its own is the state of the machine (R128, R130, R131). -/
theorem await_eq (s n : State) :
    await s n = { n with st := if s.rxCnt = s.expLen then .replied
                               else if s.rxCnt < s.expLen ∧ s.tmr = 1001 then .timedOut else n.st } := by
  rw [await, Config.timeoutTicks]
  split
  · rfl
  · split <;> rfl

theorem step_awaiting {s : State} (hrst : s.pins.rst = false) (hst : s.st = .awaiting) :
    step s = .next (await s (beginCycle s)) := by
  rw [step_busy hrst (by simp [hst]) (by simp [hst])]
  simp only [quietCycle, hst]

/-- Settles O39, by the two comparisons of the race. -/
theorem replyWinsTheRace : Obligations.ReplyWinsTheRace := by
  intro s hrst hst
  refine ⟨_, step_awaiting hrst hst, ?reply, ?timeout, ?waits, ?_⟩
  case reply =>
    intro hfull
    rw [await_eq, if_pos hfull]
  case timeout =>
    intro hshort htmr
    rw [await_eq, if_neg (BitVec.ne_of_lt hshort), if_pos ⟨hshort, htmr⟩]
  case waits =>
    intro hshort htmr
    rw [await_eq, if_neg (BitVec.ne_of_lt hshort), if_neg fun h => htmr h.2]
    exact (beginCycle_st s).trans hst
  simp [await_eq]

/-! ### The timeout -/

theorem timedOut_eq {n : State} (h : n.st = .timedOut) :
    timedOut n = { n with st := .idle, rxbuf := zeroBytes, rxCnt := 0, doneQ := true, resOutcome := .linkTimeout } := by
  rw [timedOut, complete_of_ne_cfgErr (by simp [h])]

theorem step_timedOut {s : State} (hrst : s.pins.rst = false) (hst : s.st = .timedOut) :
    step s = .next { idleAfter s with
      st := .idle, rxbuf := zeroBytes, rxCnt := 0, doneQ := true, resOutcome := .linkTimeout } := by
  rw [step_busy hrst (by simp [hst]) (by simp [hst]), quietCycle, hst]
  simp only [beginCycle_idleAfter s (by simp [hst]) (by simp [hst]), timedOut_eq (n := idleAfter s) hst]

/-- Settles O44, by `step_timedOut`: a cycle that collects nothing, then the completion of R133. -/
theorem timeoutCompletes : Obligations.TimeoutCompletes :=
  fun _ hrst hst => ⟨_, step_timedOut hrst hst, rfl⟩

end Sys2Proof.Machine

/-! PROOFS. The registers of the receive path: RXBUF, RX_CNT and DROP_CNT (R126, R127); the timer (R129); and CHUNK_SIZE
(R137). -/

namespace Sys2Proof.Machine

/-! ### What the cases of ST leave unchanged -/

/-- Sending writes the state of the machine, the index, the timer and the completion only (R122 to R125). -/
theorem send_frame (s n : State) :
    ∃ st txIdx tmr doneQ resOutcome, send s n =
      { n with st := st, txIdx := txIdx, tmr := tmr, doneQ := doneQ, resOutcome := resOutcome } := by
  rcases send_cases s n with ⟨_, e⟩ | ⟨_, _, e⟩ | ⟨_, _, _, e⟩ | ⟨_, _, _, e⟩ | ⟨_, _, e⟩ <;>
    exact ⟨_, _, _, _, _, e⟩

section
variable (s n : State)

@[simp] theorem send_rxbuf : (send s n).rxbuf = n.rxbuf := by
  obtain ⟨_, _, _, _, _, e⟩ := send_frame s n
  rw [e]

@[simp] theorem send_rxCnt : (send s n).rxCnt = n.rxCnt := by
  obtain ⟨_, _, _, _, _, e⟩ := send_frame s n
  rw [e]

@[simp] theorem send_dropCnt : (send s n).dropCnt = n.dropCnt := by
  obtain ⟨_, _, _, _, _, e⟩ := send_frame s n
  rw [e]

@[simp] theorem send_chunkSize : (send s n).chunkSize = n.chunkSize := by
  obtain ⟨_, _, _, _, _, e⟩ := send_frame s n
  rw [e]

@[simp] theorem await_rxbuf : (await s n).rxbuf = n.rxbuf := by rw [await_eq]
@[simp] theorem await_rxCnt : (await s n).rxCnt = n.rxCnt := by rw [await_eq]
@[simp] theorem await_expLen : (await s n).expLen = n.expLen := by rw [await_eq]
@[simp] theorem await_chunkSize : (await s n).chunkSize = n.chunkSize := by rw [await_eq]
@[simp] theorem await_tmr : (await s n).tmr = n.tmr := by rw [await_eq]
@[simp] theorem await_dropCnt : (await s n).dropCnt = n.dropCnt := by rw [await_eq]
@[simp] theorem await_doneQ : (await s n).doneQ = n.doneQ := by rw [await_eq]
@[simp] theorem await_sched : (await s n).sched = n.sched := by rw [await_eq]

end

/-! ### Collected bytes -/

theorem byteAt_setByteAt_same {i : BitVec 3} (h : i < 5) (f : Bytes5) (b : Byte) :
    byteAt (setByteAt f i b) i = some b := by
  rcases place_cases h with rfl | rfl | rfl | rfl | rfl <;> rfl

theorem byteAt_setByteAt_ne {i j : BitVec 3} (hi : i < 5) (h : j ≠ i) (f : Bytes5) (b : Byte) :
    byteAt (setByteAt f i b) j = byteAt f j := by
  rcases place_cases hi with rfl | rfl | rfl | rfl | rfl <;> simp_all [byteAt, setByteAt]

theorem step_sending {s : State} (hrst : s.pins.rst = false) (hst : s.st = .sending) :
    step s = .next (send s (beginCycle s)) := by
  rw [step_busy hrst (by simp [hst]) (by simp [hst]), quietCycle_sending hst, beginCycle_sending hst]

/-- In SENDING and AWAITING the reply and the drop counter after a step are those of the cycle's common writes. -/
theorem step_receives {s : State} (hrst : s.pins.rst = false) (hst : s.st = .sending ∨ s.st = .awaiting) :
    ∃ t, step s = .next t ∧ t.rxbuf = (beginCycle s).rxbuf ∧ t.rxCnt = (beginCycle s).rxCnt ∧
      t.dropCnt = (beginCycle s).dropCnt := by
  rcases hst with hst | hst
  · exact ⟨_, step_sending hrst hst, send_rxbuf _ _, send_rxCnt _ _, send_dropCnt _ _⟩
  · exact ⟨_, step_awaiting hrst hst, await_rxbuf _ _, await_rxCnt _ _, await_dropCnt _ _⟩

/-- Settles O36: the cycle collects, so its common writes store the byte in place RX_CNT. -/
theorem replyByteIsCollected : Obligations.ReplyByteIsCollected := by
  intro s hrst hvalid hst hshort hplace
  have hcollects : collects s = true := (collects_iff s).2 ⟨hvalid, hst, hshort⟩
  obtain ⟨t, hstep, hbuf, hcnt, hdrop⟩ := step_receives hrst (hst.imp_right And.left)
  rw [beginCycle_rxbuf, if_pos hcollects] at hbuf
  rw [beginCycle_rxCnt, if_pos hcollects] at hcnt
  rw [beginCycle_dropCnt, if_pos hcollects] at hdrop
  refine ⟨t, hstep, ?stored, ?others, hcnt, hdrop⟩
  case stored => rw [hbuf, byteAt_setByteAt_same hplace]
  case others =>
    intro j hj
    rw [hbuf, byteAt_setByteAt_ne hplace hj]

/-! ### Dropped bytes -/

theorem saturatingSucc_toNat (n : BitVec 16) : (saturatingSucc n).toNat = min (n.toNat + 1) 65535 := by
  unfold saturatingSucc
  split <;> bv_omega

theorem offeredAction_dropCnt {i : Instr} {n t : State} (h : offeredAction i n = .next t) : t.dropCnt = n.dropCnt := by
  rcases offeredAction_cases h with ⟨_, _, _, _, rfl⟩ | ⟨_, _, _, _, rfl⟩ <;> rfl

theorem idleAfter_dropCnt_eq_beginCycle {s : State} (h1 : s.st ≠ .sending) (h2 : s.st ≠ .awaiting) :
    (idleAfter s).dropCnt = (beginCycle s).dropCnt := by
  rw [beginCycle_idleAfter s h1 h2]

theorem quietCycle_dropCnt {s t : State} (h : quietCycle s = .next t) : t.dropCnt = (beginCycle s).dropCnt := by
  rcases quietCycle_cases h with ⟨hst, rfl⟩ | ⟨_, rfl⟩ | ⟨_, rfl⟩ | ⟨hst, hreplied⟩ | ⟨hst, rfl⟩
  · rcases hst with hst | hst <;> exact idleAfter_dropCnt_eq_beginCycle (by simp [hst]) (by simp [hst])
  · exact send_dropCnt _ _
  · exact await_dropCnt _ _
  · obtain ⟨code, res, _, rfl⟩ := replied_eq_complete hreplied
    exact idleAfter_dropCnt_eq_beginCycle (by simp [hst]) (by simp [hst])
  · exact idleAfter_dropCnt_eq_beginCycle (by simp [hst]) (by simp [hst])

/-- No case of ST and no accept writes DROP_CNT: only the arriving byte does (R39, R127). -/
theorem step_dropCnt {s t : State} (hrst : s.pins.rst = false) (h : step s = .next t) :
    t.dropCnt = (beginCycle s).dropCnt := by
  rcases step_cases h with ⟨hrst', _⟩ | ⟨_, hst, _, hoffered⟩ | ⟨_, hst, _, rfl⟩ | ⟨_, _, hquiet⟩
  · simp [hrst] at hrst'
  · rw [offeredAction_dropCnt hoffered]
    exact idleAfter_dropCnt_eq_beginCycle (by simp [hst]) (by simp [hst])
  · exact idleAfter_dropCnt_eq_beginCycle (by simp [hst]) (by simp [hst])
  · exact quietCycle_dropCnt hquiet

/-- Settles O37, by `step_dropCnt`: the byte is dropped exactly when the cycle does not collect it. -/
theorem uncollectedByteIsCounted : Obligations.UncollectedByteIsCounted := by
  intro s t hrst hstep
  rw [step_dropCnt hrst hstep, beginCycle_dropCnt]
  refine ⟨fun hvalid hnot => ?dropped, fun hvalid => ?noByte⟩
  case dropped =>
    have hcollects : ¬ collects s = true := fun h => hnot ((collects_iff s).1 h).2
    rw [if_neg hcollects, if_pos hvalid, saturatingSucc_toNat]
  case noByte =>
    rw [if_neg (c := s.pins.rxValid = true) (by simp [hvalid]), ite_self]

/-! ### The timer -/

theorem offeredAction_tmr {i : Instr} {n t : State} (h : offeredAction i n = .next t) : t.tmr = n.tmr := by
  rcases offeredAction_cases h with ⟨_, _, _, _, rfl⟩ | ⟨_, _, _, _, rfl⟩ <;> rfl

theorem send_tmr (s n : State) :
    (send s n).tmr = if s.pins.txReady = true ∧ s.txIdx = 4 ∧ 1 ≤ s.expLen then 0 else n.tmr := by
  rcases send_cases s n with ⟨hready, e⟩ | ⟨_, hidx, e⟩ | ⟨_, _, hlen, e⟩ | ⟨hready, hidx, hlen, e⟩ | ⟨_, hidx, e⟩ <;>
    rw [e]
  · rw [if_neg (by simp [hready])]
  · rw [if_neg fun h => by bv_omega]
  · rw [if_neg fun h => by bv_omega]
    rfl
  · rw [if_pos ⟨hready, hidx, by bv_omega⟩]
  · rw [if_neg fun h => by bv_omega]

/-- The timer in a cycle without an accept (R125, R129). -/
theorem quietCycle_tmr {s t : State} (h : quietCycle s = .next t) :
    t.tmr =
      if s.st = .awaiting ∧ s.pins.tick = true ∧ s.tmr < 1001 then s.tmr + 1
      else if s.st = .sending ∧ s.pins.txReady = true ∧ s.txIdx = 4 ∧ 1 ≤ s.expLen then 0
      else s.tmr := by
  rcases quietCycle_cases h with ⟨hst, rfl⟩ | ⟨hst, rfl⟩ | ⟨hst, rfl⟩ | ⟨hst, hreplied⟩ | ⟨hst, rfl⟩
  · rcases hst with hst | hst <;> simp [hst]
  · simp [send_tmr, hst, timerCounts]
  · rw [await_tmr, beginCycle_tmr]
    simp only [timerCounts_iff, hst, reduceCtorEq, false_and, if_false]
  · obtain ⟨code, res, _, rfl⟩ := replied_eq_complete hreplied
    simp [hst]
  · simp [hst, timedOut]

/-- Settles O38: reset clears the timer, an accept leaves it, and the other cycles are those of `quietCycle_tmr`. -/
theorem timerCountsOnlyInAwaiting : Obligations.TimerCountsOnlyInAwaiting := by
  intro s t hstep
  rcases step_cases hstep with ⟨hrst, rfl⟩ | ⟨hrst, hst, _, hoffered⟩ | ⟨hrst, hst, _, rfl⟩ | ⟨hrst, _, hquiet⟩
  · rw [if_pos hrst]
    rfl
  · simp [hrst, hst, offeredAction_tmr hoffered]
  · simp [hrst, hst]
  · rw [if_neg (by simp [hrst])]
    exact quietCycle_tmr hquiet

/-! ### CHUNK_SIZE outside IDLE -/

theorem quietCycle_chunkSize {s t : State} (h : quietCycle s = .next t) : t.chunkSize = s.chunkSize := by
  rcases quietCycle_cases h with ⟨_, rfl⟩ | ⟨_, rfl⟩ | ⟨_, rfl⟩ | ⟨_, hreplied⟩ | ⟨_, rfl⟩
  · simp
  · simp
  · simp
  · obtain ⟨code, res, _, rfl⟩ := replied_eq_complete hreplied
    simp
  · rfl

/-- Without reset only an accept in IDLE writes CHUNK_SIZE (R137). -/
theorem step_chunkSize {s t : State} (hidle : s.st ≠ .idle) (hrst : s.pins.rst = false) (h : step s = .next t) :
    t.chunkSize = s.chunkSize := by
  rcases step_cases h with ⟨hrst', _⟩ | ⟨_, hst, _, _⟩ | ⟨_, _, _, rfl⟩ | ⟨_, _, hquiet⟩
  · simp [hrst] at hrst'
  · exact absurd hst hidle
  · rfl
  · exact quietCycle_chunkSize hquiet

/-- Settles O52: in an exchange both registers are kept, and soundness holds them equal. -/
theorem chunkSizeIsConsistent : Obligations.ChunkSizeIsConsistent := by
  intro s t hstep
  refine ⟨fun hidle hrst => step_chunkSize hidle hrst hstep, fun hsound hrst hx hlen _ => ?_⟩
  have hidle : s.st ≠ .idle := fun hst => by simp [hst, inExchange] at hx
  obtain ⟨_, _, hkept⟩ := exchangeKeepsItsRequest s t hrst hx hstep
  refine ⟨?_, hkept⟩
  calc t.chunkSize = s.chunkSize := step_chunkSize hidle hrst hstep
    _ = s.expLen := (hsound.exchangeInv hx).framed hlen
    _ = t.expLen := hkept.symm

end Sys2Proof.Machine

/-! PROOFS. Where an exchange or an outcome comes from: what an accept in IDLE does with each request (R119 to R121, R142 to
R148), the causes of the outcomes (R150 to R157) and the transitions of the state machine (R117). -/

namespace Sys2Proof.Machine

/-! ### Accepts -/

/-- The outcome of a request that IDLE completes at once, if it does (R121, R142, R146 to R148); the other instructions
start an exchange. -/
def immediateOutcome (ps : Params) : Instr → Option ResultCode
  | .setFreq freq => if validFreq ps (effectiveFreq freq) then none else some .unreachableFreq
  | .rawExchange _ len => if rawLengthLegal len then none else some .reqInvalid
  | .configFraming len => if framingLengthLegal len then some .ok else some .reqInvalid
  | .reserved6 => some .reqInvalid
  | .reserved7 => some .reqInvalid
  | .setFreqFrame _ => none
  | .readFreqMode => none
  | .readRxStatus => none
  | .readTxStatus => none
  | .getFreqMode => none
  | .getRxStatus => none
  | .getTxStatus => none

/-- The operation part of an accept starts an exchange, or completes at once with the outcome `immediateOutcome` says: the
cases of `offeredAction_cases`, told apart by the instruction. -/
theorem offeredAction_outcome {i : Instr} {n t : State} (h : offeredAction i n = .next t) :
    (immediateOutcome n.params i = none ∧ ∃ frame len, t = startExchange frame len n) ∨
    (∃ code len, immediateOutcome n.params i = some code ∧ t = completeNow code { n with chunkSize := len }) := by
  cases i with
  | setFreq freq =>
    simp only [offeredAction, acceptSetFreq, frameSetFreq_eq] at h
    split at h
    next hvalid => exact .inl ⟨if_pos hvalid, _, _, (Host.Outcome.next.inj h).symm⟩
    next hvalid => exact .inr ⟨_, n.chunkSize, if_neg hvalid, (Host.Outcome.next.inj h).symm⟩
  | rawExchange frame len =>
    simp only [offeredAction, acceptRaw] at h
    split at h
    next hlegal => exact .inl ⟨if_pos hlegal, _, _, (Host.Outcome.next.inj h).symm⟩
    next hlegal => exact .inr ⟨_, n.chunkSize, if_neg hlegal, (Host.Outcome.next.inj h).symm⟩
  | configFraming len =>
    simp only [offeredAction, acceptFraming] at h
    split at h
    next hlegal => exact .inr ⟨_, len, if_pos hlegal, (Host.Outcome.next.inj h).symm⟩
    next hlegal => exact .inr ⟨_, n.chunkSize, if_neg hlegal, (Host.Outcome.next.inj h).symm⟩
  | reserved6 => exact .inr ⟨_, n.chunkSize, rfl, (Host.Outcome.next.inj h).symm⟩
  | reserved7 => exact .inr ⟨_, n.chunkSize, rfl, (Host.Outcome.next.inj h).symm⟩
  | setFreqFrame ds => exact .inl ⟨rfl, _, _, (Host.Outcome.next.inj h).symm⟩
  | readFreqMode => exact .inl ⟨rfl, _, _, (Host.Outcome.next.inj h).symm⟩
  | readRxStatus => exact .inl ⟨rfl, _, _, (Host.Outcome.next.inj h).symm⟩
  | readTxStatus => exact .inl ⟨rfl, _, _, (Host.Outcome.next.inj h).symm⟩
  | getFreqMode => exact .inl ⟨rfl, _, _, (Host.Outcome.next.inj h).symm⟩
  | getRxStatus => exact .inl ⟨rfl, _, _, (Host.Outcome.next.inj h).symm⟩
  | getTxStatus => exact .inl ⟨rfl, _, _, (Host.Outcome.next.inj h).symm⟩

/-- The effective frequency of a request's fields (R82, R94). -/
theorem effectiveFreq_request (r : Request) :
    effectiveFreq (if r.freqPresent then some r.freq else none) = if r.freqPresent then r.freq else 14575000 := by
  cases r.freqPresent <;> rfl

/-- `immediateOutcome` by the fields of the request port (R77, R80). -/
theorem immediateOutcome_decodeRequest (ps : Params) (r : Request) :
    immediateOutcome ps (decodeRequest r) =
      match hostOpOfCode r.op with
      | .setFreq =>
        if validFreq ps (if r.freqPresent then r.freq else 14575000) then none else some .unreachableFreq
      | .rawExchange => if r.len ≤ 5 then none else some .reqInvalid
      | .configFraming => if 1 ≤ r.len ∧ r.len ≤ 5 then some .ok else some .reqInvalid
      | .reserved6 => some .reqInvalid
      | .reserved7 => some .reqInvalid
      | _ => none := by
  cases hop : hostOpOfCode r.op <;>
    simp only [decodeRequest, hop, immediateOutcome, effectiveFreq_request, rawLengthLegal_iff, framingLengthLegal_iff]

/-- `startsExchange` names the requests that do not complete at once (R121, R142 to R148). -/
theorem startsExchange_iff (ps : Params) (r : Request) :
    startsExchange ps r = true ↔ immediateOutcome ps (decodeRequest r) = none := by
  have hcode : r.op = hostOpCode (hostOpOfCode r.op) := (hostOpCode_hostOpOfCode r.op).symm
  rw [immediateOutcome_decodeRequest]
  cases hop : hostOpOfCode r.op <;> rw [hop] at hcode
  case configFraming =>
    have hcompletes : (if 1 ≤ r.len ∧ r.len ≤ 5 then some ResultCode.ok else some .reqInvalid) ≠ none := by
      split <;> simp
    simpa [startsExchange, hcode, hostOpCode] using hcompletes
  all_goals simp [startsExchange, hcode, hostOpCode]

/-- The causes of an outcome at an accept in IDLE (R150 to R152, R154). -/
def acceptCause (ps : Params) (r : Request) : ResultCode → Prop
  | .ok => r.op = 5 ∧ 1 ≤ r.len ∧ r.len ≤ 5
  | .unreachableFreq => r.op = 0 ∧ validFreq ps (if r.freqPresent then r.freq else 14575000) = false
  | .reqInvalid => r.op = 6 ∨ r.op = 7 ∨ (r.op = 4 ∧ 5 < r.len) ∨ (r.op = 5 ∧ (r.len = 0 ∨ 5 < r.len))
  | _ => False

theorem acceptCause_of_immediateOutcome {ps : Params} {r : Request} {code : ResultCode}
    (h : immediateOutcome ps (decodeRequest r) = some code) : acceptCause ps r code := by
  have hcode : r.op = hostOpCode (hostOpOfCode r.op) := (hostOpCode_hostOpOfCode r.op).symm
  rw [immediateOutcome_decodeRequest] at h
  cases hop : hostOpOfCode r.op <;> rw [hop] at hcode <;> simp only [hop] at h
  case setFreq =>
    obtain ⟨hvalid, hunreachable⟩ := Option.ite_none_left_eq_some.1 h
    cases hunreachable
    exact ⟨hcode, Bool.not_eq_true _ ▸ hvalid⟩
  case rawExchange =>
    obtain ⟨hlegal, hinvalid⟩ := Option.ite_none_left_eq_some.1 h
    cases hinvalid
    exact .inr (.inr (.inl ⟨hcode, by bv_omega⟩))
  case configFraming =>
    split at h
    next hlegal =>
      cases h
      exact ⟨hcode, hlegal⟩
    next hlegal =>
      cases h
      exact .inr (.inr (.inr ⟨hcode, by bv_omega⟩))
  case reserved6 =>
    cases h
    exact .inl hcode
  case reserved7 =>
    cases h
    exact .inr (.inl hcode)
  all_goals simp at h

/-- An accept in IDLE by its request: it starts an exchange, or completes at once with an outcome that has its cause. -/
theorem accept_cases {r : Request} {n t : State} (h : offeredAction (decodeRequest r) n = .next t) :
    (startsExchange n.params r = true ∧ ∃ frame len, t = startExchange frame len n) ∨
    (startsExchange n.params r = false ∧
      ∃ code len, acceptCause n.params r code ∧ t = completeNow code { n with chunkSize := len }) := by
  rcases offeredAction_outcome h with ⟨hnone, hstart⟩ | ⟨code, len, hsome, rfl⟩
  · exact .inl ⟨(startsExchange_iff _ _).2 hnone, hstart⟩
  · refine .inr ⟨?_, code, len, acceptCause_of_immediateOutcome hsome, rfl⟩
    rw [← Bool.not_eq_true, startsExchange_iff, hsome]
    simp

/-! ### The causes of the outcomes -/

/-- The causes of an outcome that the state machine reports without an accept (R124, R132, R133, R157). -/
def cycleCause (s : State) : ResultCode → Prop
  | .ok => s.st = .replied ∧ ((s.op = .getFreqMode ∧ freqOk s.rxbuf = true) ∨ s.op = .getRxStatus ∨
      s.op = .getTxStatus ∨ s.op = .rawExchange)
  | .sent => s.st = .sending ∧ s.pins.txReady = true ∧ s.txIdx = 4 ∧ s.expLen = 0
  | .linkTimeout => s.st = .timedOut
  | .formatError => s.st = .replied ∧ s.op = .getFreqMode ∧ freqOk s.rxbuf = false
  | _ => False

theorem send_cause {s n : State} (hst : s.st = .sending) (hn : n.doneQ = false) (hdone : (send s n).doneQ = true) :
    cycleCause s (send s n).resOutcome := by
  rcases send_cases s n with ⟨_, e⟩ | ⟨_, _, e⟩ | ⟨hready, hidx, hlen, e⟩ | ⟨_, _, _, e⟩ | ⟨_, _, e⟩ <;>
    rw [e] at hdone ⊢
  case inr.inr.inl => exact ⟨hst, hready, hidx, hlen⟩
  all_goals simp [hn] at hdone

theorem completeFreqMode_resOutcome (s n : State) :
    (completeFreqMode s n).resOutcome = if freqOk s.rxbuf then .ok else .formatError := by
  unfold completeFreqMode
  split <;> rfl

theorem replied_cause {s n t : State} (hst : s.st = .replied) (h : replied s n = .next t) :
    cycleCause s t.resOutcome := by
  rcases replied_cases h with ⟨hop, rfl⟩ | ⟨hop, rfl⟩ | ⟨hop, rfl⟩ | ⟨hop, rfl⟩
  · rw [completeFreqMode_resOutcome]
    split
    next hok => exact ⟨hst, .inl ⟨hop, hok⟩⟩
    next hok => exact ⟨hst, hop, by simpa using hok⟩
  · exact ⟨hst, .inr (.inl hop)⟩
  · exact ⟨hst, .inr (.inr (.inl hop))⟩
  · exact ⟨hst, .inr (.inr (.inr hop))⟩

theorem quietCycle_cause {s t : State} (h : quietCycle s = .next t) (hdone : t.doneQ = true) :
    cycleCause s t.resOutcome := by
  rcases quietCycle_cases h with ⟨_, rfl⟩ | ⟨hst, rfl⟩ | ⟨_, rfl⟩ | ⟨hst, hreplied⟩ | ⟨hst, rfl⟩
  · simp at hdone
  · exact send_cause hst (beginCycle_doneQ s) hdone
  · simp at hdone
  · exact replied_cause hst hreplied
  · exact hst

/-- Settles O49: an outcome comes from an accept in IDLE, from an accept in CFGERR, or from the state machine, and each of
the three has causes of its own. -/
theorem eachOutcomeHasItsCause : Obligations.EachOutcomeHasItsCause := by
  intro s t hrst hstep hdone
  rcases step_cases hstep with ⟨hrst', _⟩ | ⟨_, hst, hvalid, hoffered⟩ | ⟨_, hst, hvalid, rfl⟩ | ⟨_, _, hquiet⟩
  · simp [hrst] at hrst'
  · rcases accept_cases hoffered with ⟨_, frame, len, rfl⟩ | ⟨_, code, len, hcause, rfl⟩
    · simp at hdone
    · rw [completeNow_resOutcome]
      cases code <;> simp_all [acceptCause]
  · exact ⟨hst, hvalid⟩
  · have hcause := quietCycle_cause hquiet hdone
    cases hcode : t.resOutcome <;> rw [hcode] at hcause
    case ok => exact .inl hcause
    case sent | linkTimeout | formatError => exact hcause
    all_goals exact hcause.elim

/-! ### The transitions -/

/-- An accept in IDLE leads to SENDING, or back to IDLE with a completion (R117, R121). -/
theorem accept_transition {s t : State} (hst : s.st = .idle)
    (h : offeredAction (decodeRequest s.pins.req) (acceptedAfter (offeredOp (decodeRequest s.pins.req)) s) = .next t) :
    if startsExchange s.params s.pins.req = true then t.st = .sending ∧ t.doneQ = false
    else t.st = .idle ∧ t.doneQ = true := by
  rcases accept_cases h with ⟨hstarts, frame, len, rfl⟩ | ⟨hstarts, code, len, _, rfl⟩
  · rw [if_pos (by simpa using hstarts)]
    exact ⟨rfl, rfl⟩
  · rw [if_neg (by simpa using hstarts)]
    exact ⟨by simp [hst], rfl⟩

/-- The rows of SENDING (R122 to R125). -/
theorem send_transition {s n : State} (hst : n.st = .sending) (hdone : n.doneQ = false) :
    if s.pins.txReady = true ∧ s.txIdx = 4 ∧ s.expLen = 0 then
      (send s n).st = .idle ∧ (send s n).doneQ = true ∧ (send s n).resOutcome = .sent
    else if s.pins.txReady = true ∧ s.txIdx = 4 then (send s n).st = .awaiting ∧ (send s n).doneQ = false
    else (send s n).st = .sending ∧ (send s n).doneQ = false := by
  rcases send_cases s n with ⟨hready, e⟩ | ⟨_, hidx, e⟩ | ⟨hready, hidx, hlen, e⟩ | ⟨hready, hidx, hlen, e⟩ |
    ⟨_, hidx, e⟩ <;> rw [e]
  · simp [hready, hst, hdone]
  · rw [if_neg fun h => by bv_omega, if_neg fun h => by bv_omega]
    exact ⟨hst, hdone⟩
  · rw [if_pos ⟨hready, hidx, hlen⟩]
    simp [hst]
  · rw [if_neg fun h => hlen h.2.2, if_pos ⟨hready, hidx⟩]
    exact ⟨rfl, hdone⟩
  · rw [if_neg fun h => by bv_omega, if_neg fun h => by bv_omega]
    exact ⟨hst, hdone⟩

/-- A completion action of REPLIED ends in IDLE with OK or FORMAT_ERROR (R132, R135). -/
theorem replied_transition {s n t : State} (hst : n.st = .replied) (h : replied s n = .next t) :
    t.st = .idle ∧ t.doneQ = true ∧ (t.resOutcome = .ok ∨ t.resOutcome = .formatError) := by
  obtain ⟨code, res, _, rfl⟩ := replied_eq_complete h
  refine ⟨by simp [hst], rfl, ?_⟩
  rcases replied_cases h with ⟨_, e⟩ | ⟨_, e⟩ | ⟨_, e⟩ | ⟨_, e⟩ <;> rw [e]
  · rw [completeFreqMode_resOutcome]
    exact ite_eq_or_eq _ _ _
  · exact .inl rfl
  · exact .inl rfl
  · exact .inl rfl

/-- Settles O51, by the cases of a step and, without an accept, by the state of the machine. -/
theorem transitionsOfTheStateMachine : Obligations.TransitionsOfTheStateMachine := by
  intro s t hstep
  rcases step_cases hstep with ⟨hrst, rfl⟩ | ⟨hrst, hst, hvalid, hoffered⟩ | ⟨hrst, hst, hvalid, rfl⟩ |
    ⟨hrst, hrest, hquiet⟩
  · rw [if_pos hrst]
    rfl
  · simpa [hrst, hst, hvalid] using accept_transition hst hoffered
  · simp [hrst, hst, hvalid]
  · rw [if_neg (by simp [hrst])]
    rcases quietCycle_cases hquiet with ⟨hst | hst, rfl⟩ | ⟨hst, rfl⟩ | ⟨hst, rfl⟩ | ⟨hst, hreplied⟩ | ⟨hst, rfl⟩ <;>
      simp only [hst]
    · simp [hst, hrest (.inl hst)]
    · simp [hst, hrest (.inr hst)]
    · exact send_transition (by simpa using hst) (beginCycle_doneQ s)
    · exact ⟨by rw [await_eq, beginCycle_st, hst], by simp⟩
    · exact replied_transition (by simpa using hst) hreplied
    · rw [timedOut_eq (n := idleAfter s) hst]
      exact ⟨rfl, rfl, rfl⟩

end Sys2Proof.Machine

/-! PROOFS. The timeout, cycle by cycle: while no byte arrives and TMR is below TIMEOUT_TICKS the engine waits, and TMR
counts the ticks (R129); then it times out (R130) and reports it (R133). -/

namespace Sys2Proof.Machine

/-- `t` awaits the same reply as `s`, with as many bytes of it, and no byte was dropped in between. -/
structure State.StillAwaits (s t : State) : Prop where
  st : t.st = .awaiting
  rxCnt : t.rxCnt = s.rxCnt
  expLen : t.expLen = s.expLen
  dropCnt : t.dropCnt = s.dropCnt

theorem State.StillAwaits.refl {s : State} (hst : s.st = .awaiting) : s.StillAwaits s :=
  ⟨hst, rfl, rfl, rfl⟩

theorem State.StillAwaits.trans {s t u : State} (hst : s.StillAwaits t) (htu : t.StillAwaits u) : s.StillAwaits u :=
  ⟨htu.st, htu.rxCnt.trans hst.rxCnt, htu.expLen.trans hst.expLen, htu.dropCnt.trans hst.dropCnt⟩

/-- A reply that was short of EXP_LEN still is. -/
theorem State.StillAwaits.short {s t : State} (h : s.StillAwaits t) (hshort : s.rxCnt < s.expLen) :
    t.rxCnt < t.expLen := by
  rwa [h.rxCnt, h.expLen]

theorem collects_of_no_byte {s : State} (h : s.pins.rxValid = false) : collects s = false := by
  simp [collects, h]

/-- One tick, and no other cycle, adds one to TMR below TIMEOUT_TICKS (R129). -/
theorem beginCycle_tmr_awaiting {s : State} (hst : s.st = .awaiting) (htmr : s.tmr.toNat ≤ 1000) :
    (beginCycle s).tmr.toNat = s.tmr.toNat + if s.pins.tick then 1 else 0 := by
  have hlt : s.tmr < 1001 := by bv_omega
  rw [beginCycle_tmr]
  cases htick : s.pins.tick
  · rw [if_neg fun h => by simp [timerCounts_iff, htick] at h]
    rfl
  · rw [if_pos ((timerCounts_iff s).2 ⟨hst, htick, hlt⟩), if_pos rfl]
    bv_omega

/-- A cycle of AWAITING before the timeout, with the reply short and no byte (R117, R129). -/
theorem step_waits {s : State} (hst : s.st = .awaiting) (hshort : s.rxCnt < s.expLen)
    (hpins : s.pins.rst = false ∧ s.pins.rxValid = false) (htmr : s.tmr.toNat ≤ 1000) :
    ∃ t, step s = .next t ∧ s.StillAwaits t ∧
      t.tmr.toNat = s.tmr.toNat + (if s.pins.tick then 1 else 0) ∧ t.sched = s.sched.tail := by
  obtain ⟨hrst, hnoByte⟩ := hpins
  refine ⟨_, step_awaiting hrst hst, ⟨?st, ?cnt, ?len, ?drop⟩, ?tmr, ?sched⟩
  case st =>
    rw [await_eq, if_neg (BitVec.ne_of_lt hshort), if_neg fun h => by bv_omega]
    exact (beginCycle_st s).trans hst
  case cnt => simp [collects_of_no_byte hnoByte]
  case len => simp
  case drop => simp [hnoByte]
  case tmr => rw [await_tmr, beginCycle_tmr_awaiting hst htmr]
  case sched => simp

/-- The cycle of AWAITING after the 1001st tick, with the reply short and no byte (R130). -/
theorem step_expires {s : State} (hst : s.st = .awaiting) (hshort : s.rxCnt < s.expLen)
    (hpins : s.pins.rst = false ∧ s.pins.rxValid = false) (htmr : s.tmr.toNat = 1001) :
    ∃ t, step s = .next t ∧ t.st = .timedOut ∧ t.expLen = s.expLen ∧ t.dropCnt = s.dropCnt ∧
      t.sched = s.sched.tail := by
  obtain ⟨hrst, hnoByte⟩ := hpins
  refine ⟨_, step_awaiting hrst hst, ?st, ?len, ?drop, ?sched⟩
  case st => rw [await_eq, if_neg (BitVec.ne_of_lt hshort), if_pos ⟨hshort, by bv_omega⟩]
  case len => simp
  case drop => simp [hnoByte]
  case sched => simp

/-- Over cycles `l` whose ticks keep TMR at most 1000, the engine waits, and TMR counts their ticks. -/
theorem run_waits {s : State} {l rest : List Pins} (hst : s.st = .awaiting) (hshort : s.rxCnt < s.expLen)
    (hsched : s.sched = l ++ rest) (hpins : ∀ x ∈ l, x.rst = false ∧ x.rxValid = false)
    (htmr : s.tmr.toNat + l.countP (·.tick) ≤ 1000) :
    ∃ t : State, Host.Core.run Sys2Proof.core l.length s = .next t ∧ s.StillAwaits t ∧
      t.tmr.toNat = s.tmr.toNat + l.countP (·.tick) ∧ t.sched = rest := by
  induction l generalizing s with
  | nil => exact ⟨s, rfl, .refl hst, rfl, hsched⟩
  | cons x l ih =>
    have hx : s.pins = x := pins_of_sched hsched
    rw [List.countP_cons] at htmr ⊢
    obtain ⟨t, hstep, hwait, httmr, htsched⟩ :=
      step_waits hst hshort (hx ▸ hpins x List.mem_cons_self) (by omega)
    rw [hx] at httmr
    obtain ⟨u, hrun, hwait', hutmr, husched⟩ := ih hwait.st (hwait.short hshort) (by rw [htsched, hsched]; rfl)
      (fun y hy => hpins y (List.mem_cons_of_mem x hy)) (by omega)
    exact ⟨u, (run_succ hstep).trans hrun, hwait.trans hwait', by omega, husched⟩

/-- Settles O55: `run_waits` over every beginning of `l`, then the cycle of the 1001st tick, the cycle that sees TMR at
TIMEOUT_TICKS, and the completion. -/
theorem timeoutComesWithTick1001 : Obligations.TimeoutComesWithTick1001 := by
  intro s l p q1 q2 rest hst hshort hsched hpins htmr htick
  have hpinsl : ∀ x ∈ l, x.rst = false ∧ x.rxValid = false := fun x hx => hpins x (by simp [hx])
  obtain ⟨t0, hrun0, hwait0, htmr0, hsched0⟩ := run_waits hst hshort hsched hpinsl (by omega)
  have hpins0 : t0.pins = p := pins_of_sched hsched0
  obtain ⟨t1, hstep1, hwait1, htmr1, hsched1⟩ :=
    step_waits hwait0.st (hwait0.short hshort) (hpins0 ▸ hpins p (by simp)) (by omega)
  have hwait := hwait0.trans hwait1
  refine ⟨fun k hk => ?waits, ?reports⟩
  case waits =>
    rcases Nat.le_succ_iff.1 hk with hk | rfl
    · have hticks : (l.take k).countP (·.tick) ≤ l.countP (·.tick) := (List.take_sublist k l).countP_le
      obtain ⟨t, hrun, hwait, _, _⟩ := run_waits (l := l.take k) (rest := l.drop k ++ p :: q1 :: q2 :: rest) hst hshort
        (by rw [hsched, ← List.append_assoc, List.take_append_drop]) (fun x hx => hpinsl x (List.mem_of_mem_take hx))
        (by omega)
      rw [List.length_take_of_le hk] at hrun
      exact ⟨t, hrun, hwait.st⟩
    · exact ⟨t1, (run_add _ _ 1 s t0 hrun0).trans (run_succ hstep1), hwait1.st⟩
  case reports =>
    rw [hsched0] at hsched1
    have hpins1 : t1.pins = q1 := pins_of_sched hsched1
    obtain ⟨t2, hstep2, hst2, hlen2, hdrop2, hsched2⟩ := step_expires hwait.st (hwait.short hshort)
      (hpins1 ▸ hpins q1 (by simp)) (by rw [htmr1, hpins0, htick]; simp; omega)
    rw [hsched1] at hsched2
    have hpins2 : t2.pins = q2 := pins_of_sched hsched2
    obtain ⟨hrst2, hnoByte2⟩ := hpins q2 (by simp)
    rw [← hpins2] at hrst2 hnoByte2
    obtain ⟨t3, hstep3, ht3⟩ : ∃ t3, step t2 = .next t3 ∧ t3 = _ := ⟨_, step_timedOut hrst2 hst2, rfl⟩
    refine ⟨t3, ?run, ?registers⟩
    case run =>
      rw [run_add Sys2Proof.core _ 3 s t0 hrun0, run_succ hstep1, run_succ hstep2, run_succ hstep3]
      rfl
    case registers => simp [ht3, hlen2, hwait.expLen, hnoByte2, hdrop2, hwait.dropCnt]

end Sys2Proof.Machine

/-! PROOFS. The host operations in IDLE: the whole next state of each accept, which starts an exchange or completes at
once (R120, R121, R142 to R148). -/

namespace Sys2Proof.Machine

/-! ### The operation part of an accept -/

/-- In IDLE a meaning is its operation part on the accepted state (R119 to R121). -/
theorem exec_idle (i : Instr) {s : State} (hst : s.st = .idle) :
    exec i s = offeredAction i (acceptedAfter (offeredOp i) s) := by
  rw [exec_requestCycle, requestCycle_idle hst]

/-- CHUNK_SIZE becomes the reply length, unless that is 0 (R121). -/
theorem startExchange_chunkSize_eq (frame : Bytes5) (len : BitVec 3) (n : State) :
    (startExchange frame len n).chunkSize = if len = 0 then n.chunkSize else len := by
  rw [startExchange_chunkSize]
  by_cases h : len = 0
  · rw [if_pos h, if_neg (by bv_omega)]
  · rw [if_neg h, if_pos (by bv_omega)]

/-- An accept in IDLE whose operation part starts an exchange (R120, R121). -/
theorem exec_starts_exchange {i : Instr} {s : State} {frame : Bytes5} {len : BitVec 3} (hst : s.st = .idle)
    (haction : offeredAction i (acceptedAfter (offeredOp i) s) =
      .next (startExchange frame len (acceptedAfter (offeredOp i) s))) :
    exec i s = .next
      { s with
        st := .sending, op := offeredOp i, txbuf := frame, txIdx := 0, expLen := len
        chunkSize := if len = 0 then s.chunkSize else len
        rxbuf := zeroBytes, rxCnt := 0, doneQ := false, resOutcome := .none, res := zeroResults
        dropCnt := if s.pins.rxValid then saturatingSucc s.dropCnt else s.dropCnt
        sched := s.sched.tail, cycle := s.cycle + 1 } := by
  have hchunk := startExchange_chunkSize_eq frame len (acceptedAfter (offeredOp i) s)
  rw [acceptedAfter_chunkSize] at hchunk
  rw [exec_idle i hst, haction, ← hchunk]
  rfl

/-- An accept in IDLE whose operation part completes at once, with CHUNK_SIZE `chunk` (R120, R121, R135). -/
theorem exec_completes_at_once {i : Instr} {s : State} {code : ResultCode} {chunk : BitVec 3} (hst : s.st = .idle)
    (haction : offeredAction i (acceptedAfter (offeredOp i) s) =
      .next (completeNow code { acceptedAfter (offeredOp i) s with chunkSize := chunk })) :
    exec i s = .next
      { s with
        op := offeredOp i, expLen := 0, chunkSize := chunk, rxbuf := zeroBytes, rxCnt := 0
        doneQ := true, resOutcome := code, res := zeroResults
        dropCnt := if s.pins.rxValid then saturatingSucc s.dropCnt else s.dropCnt
        sched := s.sched.tail, cycle := s.cycle + 1 } := by
  rw [exec_idle i hst, haction, completeNow, complete_of_ne_cfgErr (by simp [hst]), ← hst]
  rfl

theorem acceptSetFreq_of_valid {f : BitVec 32} {n : State} (h : validFreq n.params f = true) :
    acceptSetFreq f n = .next (startExchange (frameOfDigits (digits8 f)) 0 n) := by
  rw [acceptSetFreq, if_pos h, frameSetFreq_eq]

theorem acceptRaw_of_gt {len : BitVec 3} (h : 5 < len) (frame : Bytes5) (n : State) :
    acceptRaw frame len n = .next (completeNow .reqInvalid n) :=
  if_neg fun hlegal => by
    have := (rawLengthLegal_iff len).1 hlegal
    bv_omega

theorem acceptFraming_of_legal {len : BitVec 3} (h : 1 ≤ len ∧ len ≤ 5) (n : State) :
    acceptFraming len n = .next (completeNow .ok { n with chunkSize := len }) :=
  if_pos ((framingLengthLegal_iff len).2 h)

theorem acceptFraming_of_illegal {len : BitVec 3} (h : len = 0 ∨ 5 < len) (n : State) :
    acceptFraming len n = .next (completeNow .reqInvalid n) :=
  if_neg fun hlegal => by
    have := (framingLengthLegal_iff len).1 hlegal
    bv_omega

/-! ### The operations -/

/-- Settles O21: the frequency is valid, so its frame is built and its exchange begins, with no reply awaited. -/
theorem setFreqStartsItsExchange : Obligations.SetFreqStartsItsExchange :=
  fun _ _ hst hvalid => exec_starts_exchange hst (acceptSetFreq_of_valid hvalid)

/-- Settles O24, by StartExchange with each operation's frame and reply length. -/
theorem readRequestsStartTheirExchanges : Obligations.ReadRequestsStartTheirExchanges :=
  fun _ hst => ⟨exec_starts_exchange hst rfl, exec_starts_exchange hst rfl, exec_starts_exchange hst rfl⟩

/-- Settles O25: a legal length starts the exchange, any other completes at once. -/
theorem rawExchangeStartsOrIsInvalid : Obligations.RawExchangeStartsOrIsInvalid :=
  fun frame _ _ hst =>
    ⟨fun hlegal => exec_starts_exchange hst (acceptRaw_of_le hlegal frame _),
      fun hillegal => exec_completes_at_once hst (acceptRaw_of_gt hillegal frame _)⟩

/-- Settles O26: either length completes at once, and only a legal one is written to CHUNK_SIZE. -/
theorem configFramingSetsOrIsInvalid : Obligations.ConfigFramingSetsOrIsInvalid :=
  fun _ _ hst =>
    ⟨fun hlegal => exec_completes_at_once hst (acceptFraming_of_legal hlegal _),
      fun hillegal => exec_completes_at_once hst (acceptFraming_of_illegal hillegal _)⟩

/-- Settles O27: each reserved code's operation part is the immediate completion. -/
theorem reservedCodesAreInvalid : Obligations.ReservedCodesAreInvalid :=
  fun _ hst => ⟨exec_completes_at_once hst rfl, exec_completes_at_once hst rfl⟩

end Sys2Proof.Machine

/-! PROOFS. The completions of REPLIED: the whole next state of each (R132, R135, R143 to R146). -/

namespace Sys2Proof.Machine

theorem step_replied {s : State} (hrst : s.pins.rst = false) (hst : s.st = .replied) :
    step s = replied s (idleAfter s) := by
  rw [step_busy hrst (by simp [hst]) (by simp [hst]), quietCycle, hst]
  simp only [beginCycle_idleAfter s (by simp [hst]) (by simp [hst])]

/-- A step of REPLIED whose completion action reports `code` and leaves the results `res` writes nothing else but the
registers of every cycle (R132, R135). -/
theorem step_replied_completes {s : State} {code : ResultCode} {res : Results} (hrst : s.pins.rst = false)
    (hst : s.st = .replied)
    (haction : replied s (idleAfter s) = .next (complete code { idleAfter s with res := res })) :
    step s = .next
      { s with
        st := .idle, doneQ := true, resOutcome := code, res := res
        dropCnt := if s.pins.rxValid then saturatingSucc s.dropCnt else s.dropCnt
        sched := s.sched.tail, cycle := s.cycle + 1 } := by
  rw [step_replied hrst hst, haction, complete_of_ne_cfgErr (by simp [hst])]
  rfl

/-- Both outcomes of GET_FREQ_MODE as one completion (R102, R143). -/
theorem completeFreqMode_eq (s : State) :
    completeFreqMode s (idleAfter s) =
      complete (if freqOk s.rxbuf then .ok else .formatError)
        { idleAfter s with res := if freqOk s.rxbuf then decodeFreqMode s.rxbuf s.res else s.res } := by
  unfold completeFreqMode
  split <;> rfl

/-- Settles O40, by `completeFreqMode_eq`. -/
theorem getFreqModeCompletes : Obligations.GetFreqModeCompletes := by
  intro s hrst hst hop
  refine step_replied_completes hrst hst ?_
  rw [replied, hop]
  simp only [completeFreqMode_eq]

/-- Settles O41: the action decodes the first reply byte and reports OK. -/
theorem getRxStatusCompletes : Obligations.GetRxStatusCompletes :=
  fun _ hrst hst hop => step_replied_completes hrst hst (by rw [replied, hop]; rfl)

/-- Settles O42: the same with the transmitter-status decoder, under the run's polarity. -/
theorem getTxStatusCompletes : Obligations.GetTxStatusCompletes :=
  fun _ hrst hst hop => step_replied_completes hrst hst (by rw [replied, hop]; rfl)

/-- Settles O43: the action reports OK and leaves the results. -/
theorem rawExchangeCompletes : Obligations.RawExchangeCompletes :=
  fun s hrst hst hop => step_replied_completes (res := s.res) hrst hst (by rw [replied, hop]; rfl)

end Sys2Proof.Machine

/-! PROOFS. Exchanges from end to end: the accept, the five cycles in which the channel takes the frame, the reply
(R183). -/

namespace Sys2Proof.Machine

/-- `t` has the request, the chunk size, the reply bytes and the decoded results of `s`. -/
structure State.SameExchange (s t : State) : Prop where
  op : t.op = s.op
  txbuf : t.txbuf = s.txbuf
  expLen : t.expLen = s.expLen
  chunkSize : t.chunkSize = s.chunkSize
  rxbuf : t.rxbuf = s.rxbuf
  rxCnt : t.rxCnt = s.rxCnt
  res : t.res = s.res

theorem State.SameExchange.refl (s : State) : s.SameExchange s :=
  ⟨rfl, rfl, rfl, rfl, rfl, rfl, rfl⟩

theorem State.SameExchange.trans {s t u : State} (hst : s.SameExchange t) (htu : t.SameExchange u) :
    s.SameExchange u :=
  ⟨htu.op.trans hst.op, htu.txbuf.trans hst.txbuf, htu.expLen.trans hst.expLen, htu.chunkSize.trans hst.chunkSize,
    htu.rxbuf.trans hst.rxbuf, htu.rxCnt.trans hst.rxCnt, htu.res.trans hst.res⟩

/-! ### The accept -/

/-- In IDLE a step with a request on the port runs the instruction of its fields (R119). -/
theorem step_accepts {s : State} (hrst : s.pins.rst = false) (hst : s.st = .idle) (hvalid : s.pins.reqValid = true) :
    step s = exec (decodeRequest s.pins.req) s :=
  stepRunsTheOfferedRequest s _ hrst (.inl hst) hvalid (decode_encodeRequest s.pins.req)

theorem decodeRequest_getRxStatus {r : Request} (h : r.op = 2) : decodeRequest r = .getRxStatus := by
  rw [decodeRequest, h]
  rfl

theorem decodeRequest_setFreq {r : Request} (h : r.op = 0) (hpresent : r.freqPresent = true) :
    decodeRequest r = .setFreq (some r.freq) := by
  rw [decodeRequest, h, hpresent]
  rfl

/-! ### The frame -/

/-- A cycle of SENDING in which a byte that arrives finds the reply complete collects nothing (R126). -/
theorem sendingAfter_eq_idleAfter {s : State} (h : s.pins.rxValid = true → s.expLen ≤ s.rxCnt) :
    sendingAfter s = idleAfter s := by
  cases hv : s.pins.rxValid
  · simp [sendingAfter, idleAfter, hv]
  · have hfull : ¬ s.rxCnt < s.expLen := BitVec.not_lt.2 (h hv)
    simp [sendingAfter, idleAfter, hv, hfull]

/-- The channel takes one byte in each of the cycles `l`, up to the fourth, and no reply byte is collected. -/
theorem run_sends {s : State} {l rest : List Pins} (hst : s.st = .sending) (hidx : s.txIdx.toNat + l.length ≤ 4)
    (hsched : s.sched = l ++ rest)
    (hpins : ∀ p ∈ l, p.rst = false ∧ p.txReady = true ∧ (p.rxValid = true → s.expLen ≤ s.rxCnt)) :
    ∃ t : State, Host.Core.run Sys2Proof.core l.length s = .next t ∧ s.SameExchange t ∧ t.st = .sending ∧
      t.txIdx.toNat = s.txIdx.toNat + l.length ∧ t.sched = rest := by
  induction l generalizing s with
  | nil => exact ⟨s, rfl, .refl s, hst, rfl, hsched⟩
  | cons p l ih =>
    rw [List.length_cons] at hidx ⊢
    obtain ⟨hrst, hready, hfull⟩ := hpins p List.mem_cons_self
    rw [← pins_of_sched hsched] at hrst hready hfull
    obtain ⟨_, hnext, _⟩ := everyFrameIsSentByteByByte s hrst hst
    have hstep := hnext hready (by bv_omega)
    rw [sendingAfter_eq_idleAfter hfull] at hstep
    have htidx : (s.txIdx + 1).toNat = s.txIdx.toNat + 1 := by bv_omega
    obtain ⟨u, hrun, hsame, hust, huidx, husched⟩ := ih (s := { idleAfter s with txIdx := s.txIdx + 1 }) hst
      (by simp only [htidx]; omega) (by simp [hsched]) (fun q hq => hpins q (List.mem_cons_of_mem p hq))
    have hsame0 : s.SameExchange { idleAfter s with txIdx := s.txIdx + 1 } := ⟨rfl, rfl, rfl, rfl, rfl, rfl, rfl⟩
    refine ⟨u, (run_succ hstep).trans hrun, hsame0.trans hsame, hust, ?_, husched⟩
    simp only [htidx] at huidx
    omega

/-- An accept that starts an exchange, and five ready cycles that take its frame and collect no reply byte: SENT if no
reply is awaited (R124), else AWAITING with the timer at 0 (R125). -/
theorem run_accept_sends_frame {s s0 : State} {l rest : List Pins} {p : Pins} (haccept : step s = .next s0)
    (hst : s0.st = .sending) (hidx : s0.txIdx = 0) (hlen : l.length = 4) (hsched : s0.sched = l ++ p :: rest)
    (hpins : ∀ q ∈ l ++ [p], q.rst = false ∧ q.txReady = true ∧ (q.rxValid = true → s0.expLen ≤ s0.rxCnt)) :
    ∃ t : State, Host.Core.run Sys2Proof.core 6 s = .next t ∧ s0.SameExchange t ∧ t.sched = rest ∧
      (s0.expLen = 0 → t.st = .idle ∧ t.doneQ = true ∧ t.resOutcome = .sent) ∧
      (1 ≤ s0.expLen → t.st = .awaiting ∧ t.tmr = 0) := by
  obtain ⟨t, hrun, hsame, htst, htidx, htsched⟩ := run_sends hst (by simp [hidx, hlen]) hsched
    (fun q hq => hpins q (by simp [hq]))
  rw [hlen] at hrun
  rw [hidx, hlen] at htidx
  have hlast : t.txIdx = 4 := by bv_omega
  obtain ⟨hrst, hready, hfull⟩ := hpins p (by simp)
  rw [← pins_of_sched htsched] at hrst hready hfull
  rw [← hsame.expLen, ← hsame.rxCnt] at hfull
  obtain ⟨_, _, hsent, hawaits⟩ := everyFrameIsSentByteByByte t hrst htst
  rw [sendingAfter_eq_idleAfter hfull, hsame.expLen] at hsent hawaits
  have hrun6 {u : State} (hstep : step t = .next u) : Host.Core.run Sys2Proof.core 6 s = .next u :=
    calc Host.Core.run Sys2Proof.core 6 s = Host.Core.run Sys2Proof.core (4 + 1) s0 := run_succ haccept
      _ = Host.Core.run Sys2Proof.core 1 t := run_add Sys2Proof.core 4 1 s0 t hrun
      _ = .next u := run_succ hstep
  have hrest : t.sched.tail = rest := by rw [htsched, List.tail_cons]
  by_cases hzero : s0.expLen = 0
  · exact ⟨_, hrun6 (hsent hready hlast hzero), hsame.trans ⟨rfl, rfl, rfl, rfl, rfl, rfl, rfl⟩, hrest,
      fun _ => ⟨rfl, rfl, rfl⟩, fun h => by bv_omega⟩
  · exact ⟨_, hrun6 (hawaits hready hlast (by bv_omega)), hsame.trans ⟨rfl, rfl, rfl, rfl, rfl, rfl, rfl⟩, hrest,
      fun h => absurd h hzero, fun _ => ⟨rfl, rfl⟩⟩

/-! ### The reply -/

/-- A cycle of AWAITING before the timeout that collects a reply byte (R126). -/
theorem step_collects {s : State} (hrst : s.pins.rst = false) (hst : s.st = .awaiting) (hvalid : s.pins.rxValid = true)
    (htmr : s.tmr < 1001) (hshort : s.rxCnt < s.expLen) :
    ∃ t, step s = .next t ∧ t.st = .awaiting ∧ t.sched = s.sched.tail ∧
      State.SameExchange
        { s with rxbuf := setByteAt s.rxbuf s.rxCnt s.pins.rxData, rxCnt := s.rxCnt + 1 } t := by
  have hcollects : collects s = true := (collects_iff s).2 ⟨hvalid, .inr ⟨hst, htmr⟩, hshort⟩
  have hnext : await s (beginCycle s) = beginCycle s := by
    rw [await, if_neg (BitVec.ne_of_lt hshort), if_neg fun h => BitVec.ne_of_lt htmr h.2]
  refine ⟨beginCycle s, hnext ▸ step_awaiting hrst hst, by simp [hst], by simp, ?_⟩
  constructor <;> simp [hcollects]

/-- The cycle of AWAITING that finds the reply complete (R128). -/
theorem step_reply_complete {s : State} (hrst : s.pins.rst = false) (hst : s.st = .awaiting)
    (hfull : s.rxCnt = s.expLen) :
    ∃ t, step s = .next t ∧ t.st = .replied ∧ t.sched = s.sched.tail ∧ s.SameExchange t := by
  have hcollects : collects s = false := by simp [collects, hfull]
  have hnext : await s (beginCycle s) = { beginCycle s with st := .replied } := by
    rw [await, if_pos hfull]
  refine ⟨{ beginCycle s with st := .replied }, hnext ▸ step_awaiting hrst hst, rfl, by simp, ?_⟩
  constructor <;> simp [hcollects]

/-! ### The exchanges -/

/-- Settles O57: the accept, then the frame's five cycles. No reply is awaited, so no byte is collected. -/
theorem setFreqExchangeEndsInSent : Obligations.SetFreqExchangeEndsInSent := by
  intro s p0 p1 p2 p3 p4 p5 rest hst hsched hrst hreq hop hpresent hfreq hready
  obtain rfl : s.pins = p0 := pins_of_sched hsched
  have haccept := step_accepts (hrst _ (by simp)) hst hreq
  rw [decodeRequest_setFreq hop hpresent, setFreqStartsItsExchange (some s.pins.req.freq) s hst hfreq] at haccept
  obtain ⟨t, hrun, hsame, _, hsent, _⟩ := run_accept_sends_frame (l := [p1, p2, p3, p4]) haccept rfl rfl rfl
    (congrArg List.tail hsched) (fun q hq => ⟨hrst q (List.mem_cons_of_mem _ hq), hready q hq, fun _ => BitVec.le_refl 0⟩)
  obtain ⟨htst, hdone, houtcome⟩ := hsent rfl
  exact ⟨t, hrun, htst, hdone, houtcome, hsame.op, hsame.txbuf, hsame.rxbuf, hsame.rxCnt,
    hsame.chunkSize, hsame.res⟩

/-- Settles O56: the accept, the frame's five cycles, the cycle that collects the reply byte, the cycle that finds the
reply complete, and the completion. -/
theorem rxStatusExchangeDecodesTheReply : Obligations.RxStatusExchangeDecodesTheReply := by
  intro s p0 p1 p2 p3 p4 p5 p6 p7 p8 rest hst hsched hrst hreq hop hready hreply
  obtain rfl : s.pins = p0 := pins_of_sched hsched
  obtain ⟨_, hexec, _⟩ := readRequestsStartTheirExchanges s hst
  have haccept := step_accepts (hrst _ (by simp)) hst hreq
  rw [decodeRequest_getRxStatus hop, hexec] at haccept
  obtain ⟨t5, hrun, hsame5, hsched5, _, hawaits⟩ := run_accept_sends_frame (l := [p1, p2, p3, p4]) haccept rfl rfl rfl
    (congrArg List.tail hsched) (fun q hq => ⟨hrst q (List.mem_cons_of_mem _ (List.mem_append_left [p6, p7, p8] hq)),
      (hready q hq).1, fun h => by simp [(hready q hq).2] at h⟩)
  obtain ⟨hst5, htmr5⟩ := hawaits (BitVec.le_refl 1)
  have hpins5 := pins_of_sched hsched5
  obtain ⟨t6, hstep6, hst6, hsched6, hsame6⟩ := step_collects (hpins5 ▸ hrst p6 (by simp)) hst5 (hpins5 ▸ hreply)
    (by simp [htmr5]) (by simp [hsame5.rxCnt, hsame5.expLen])
  rw [hsched5] at hsched6
  obtain ⟨t7, hstep7, hst7, hsched7, hsame7⟩ := step_reply_complete (pins_of_sched hsched6 ▸ hrst p7 (by simp)) hst6
    (by simp [hsame6.rxCnt, hsame6.expLen, hsame5.rxCnt, hsame5.expLen])
  rw [hsched6] at hsched7
  have hsame := hsame6.trans hsame7
  have hrxbuf : t7.rxbuf = ⟨p6.rxData, 0, 0, 0, 0⟩ := by
    rw [hsame.rxbuf, hpins5]
    simp only [hsame5.rxbuf, hsame5.rxCnt]
    rfl
  have hstep8 := getRxStatusCompletes t7 (pins_of_sched hsched7 ▸ hrst p8 (by simp)) hst7 (hsame.op.trans hsame5.op)
  have hrun9 := (run_add Sys2Proof.core 6 3 s t5 hrun).trans
    ((run_succ hstep6).trans ((run_succ hstep7).trans (run_succ hstep8)))
  have hres : t7.res = zeroResults := hsame.res.trans hsame5.res
  exact ⟨_, hrun9, rfl, rfl, rfl, hsame.op.trans hsame5.op, hsame.expLen.trans hsame5.expLen,
    hsame.chunkSize.trans hsame5.chunkSize, hsame.txbuf.trans hsame5.txbuf, hrxbuf, by simp only [hrxbuf, hres]⟩

end Sys2Proof.Machine

/-! PROOFS. Progress: in a sound state every rule of the engine has a next state, so no run stops (R149). -/

namespace Sys2Proof.Machine

/-! ### The operations that can wait for a reply -/

/-- The operations that fit a reply of one byte or more (R100). -/
theorem awaitingOp_of_lengthFits {op : HostOp} {len : BitVec 3} (hfits : lengthFits op len = true) (hlen : 1 ≤ len) :
    op = .getFreqMode ∨ op = .getRxStatus ∨ op = .getTxStatus ∨ op = .rawExchange := by
  cases op with
  | setFreq =>
    have hzero : len = 0 := of_decide_eq_true hfits
    exact absurd hlen (by rw [hzero]; decide)
  | getFreqMode => exact .inl rfl
  | getRxStatus => exact .inr (.inl rfl)
  | getTxStatus => exact .inr (.inr (.inl rfl))
  | rawExchange => exact .inr (.inr (.inr rfl))
  | configFraming => cases hfits
  | reserved6 => cases hfits
  | reserved7 => cases hfits

/-! ### Each rule has a next state -/

/-- No accept action traps: SET_FREQ's digits are decimal, so its frame can be built (R83, R87), and the other actions
branch between an exchange and a completion. -/
theorem offeredAction_progress (i : Instr) (n : State) : ∃ t, offeredAction i n = .next t := by
  cases i with
  | setFreq freq =>
    simp only [offeredAction, acceptSetFreq, frameSetFreq_eq]
    split <;> exact ⟨_, rfl⟩
  | rawExchange frame len =>
    simp only [offeredAction, acceptRaw]
    split <;> exact ⟨_, rfl⟩
  | configFraming len =>
    simp only [offeredAction, acceptFraming]
    split <;> exact ⟨_, rfl⟩
  | setFreqFrame | readFreqMode | readRxStatus | readTxStatus | getFreqMode | getRxStatus | getTxStatus | reserved6
  | reserved7 => exact ⟨_, rfl⟩

/-- An operation that can wait for a reply has a completion action (R132). -/
theorem replied_progress {s : State} (n : State)
    (hop : s.op = .getFreqMode ∨ s.op = .getRxStatus ∨ s.op = .getTxStatus ∨ s.op = .rawExchange) :
    ∃ t, replied s n = .next t := by
  unfold replied
  rcases hop with hop | hop | hop | hop <;> rw [hop] <;> exact ⟨_, rfl⟩

/-- The state machine of a sound state goes on: ST is neither 6 nor 7 (R138), and in REPLIED the operation is one that
awaited its reply (R132). -/
theorem quietCycle_progress {s : State} (h : s.Sound) : ∃ t, quietCycle s = .next t := by
  obtain ⟨hne6, hne7⟩ := h.inv.legal
  unfold quietCycle
  cases hst : s.st with
  | replied =>
    obtain ⟨_, hlen⟩ := h.inv.replied hst
    exact replied_progress _ (awaitingOp_of_lengthFits (h.opInv (by simp [inExchange, hst])) hlen)
  | unused6 => exact absurd hst hne6
  | unused7 => exact absurd hst hne7
  | idle | sending | awaiting | timedOut | cfgErr => exact ⟨_, rfl⟩

/-- A request in IDLE has an accept action, one in CFGERR is answered with CONFIG_ERROR (R134), and one in any other state
waits (R119). -/
theorem exec_progress (i : Instr) {s : State} (h : s.Sound) : ∃ t, exec i s = .next t := by
  rw [exec_requestCycle]
  by_cases hidle : s.st = .idle
  · rw [requestCycle_idle hidle]
    exact offeredAction_progress _ _
  · by_cases hcfg : s.st = .cfgErr
    · exact ⟨_, requestCycle_cfgErr hcfg⟩
    · rw [requestCycle_busy hidle hcfg]
      exact quietCycle_progress h

theorem step_progress {s : State} (h : s.Sound) : ∃ t, step s = .next t := by
  unfold step
  cases fetch s with
  | reset => exact ⟨_, rfl⟩
  | run i => exact exec_progress i h
  | quiet => exact quietCycle_progress h

/-- Settles O46, by induction on the length of the run: a sound state has a next state, which is sound. -/
theorem soundRunsNeverStop : Obligations.SoundRunsNeverStop := by
  intro s k h
  induction k generalizing s with
  | zero => exact ⟨s, rfl, h⟩
  | succ k ih =>
    obtain ⟨u, hstep⟩ := step_progress h
    rw [run_succ hstep]
    exact ih u (stepKeepsSound s u h hstep)

end Sys2Proof.Machine

/-! PROOFS. The frequency that fails validation (R95, R150). -/

namespace Sys2Proof.Machine

/-- Both causes of R150 fail the validation. -/
theorem validFreq_eq_false_iff (ps : Params) (f : BitVec 32) :
    validFreq ps f = false ↔ f.toNat > 99999999 ∨ isValidRxFrequency ps f = false := by
  rw [validFreq, Bool.and_eq_false_iff, decide_eq_false_iff_not, Nat.not_le]
  rfl

theorem acceptSetFreq_of_invalid {f : BitVec 32} {n : State} (h : validFreq n.params f = false) :
    acceptSetFreq f n = .next (completeNow .unreachableFreq n) := by
  rw [acceptSetFreq, if_neg (by simp [h])]

/-- Settles O22: the accept completes at once, and IDLE offers no byte to the channel. -/
theorem unreachableFrequencyIsRefused : Obligations.UnreachableFrequencyIsRefused := by
  intro freq s hst hcause
  have hinvalid := (validFreq_eq_false_iff s.params (effectiveFreq freq)).2 hcause
  exact ⟨rfl, by simp [txValid, hst], _, exec_completes_at_once hst (acceptSetFreq_of_invalid hinvalid), rfl⟩

end Sys2Proof.Machine

/-! PROOFS. What each outcome records (R156): an accept that completes at once records its operation and nothing else; a
completion of the state machine records the exchange's registers, which soundness describes. -/

namespace Sys2Proof.Machine

/-! ### The record of an accept -/

/-- No reply is on record: no length, no reply byte, no decoded result. -/
def State.NothingReceived (t : State) : Prop := t.expLen = 0 ∧ t.rxbuf = zeroBytes ∧ t.res = zeroResults

/-- An immediate completion of an accepted request has its cleared registers (R120, R121). -/
theorem completeNow_nothingReceived (code : ResultCode) (op : HostOp) (len : BitVec 3) (s : State) :
    (completeNow code { acceptedAfter op s with chunkSize := len }).NothingReceived :=
  ⟨rfl, rfl, rfl⟩

/-- An accepted request's operation has the code on the port (R77). -/
theorem hostOpCode_offeredOp (r : Request) : hostOpCode (offeredOp (decodeRequest r)) = r.op := by
  rw [offeredOp_decodeRequest, hostOpCode_hostOpOfCode]

/-- The operation an outcome of an accept in IDLE records, by the outcome's cause. -/
def acceptedOpFits (r : Request) (op : HostOp) : ResultCode → Prop
  | .ok => op = .configFraming
  | .unreachableFreq => op = .setFreq
  | .reqInvalid => hostOpCode op = r.op
  | _ => False

theorem acceptedOpFits_of_acceptCause {ps : Params} {r : Request} {code : ResultCode} (h : acceptCause ps r code) :
    acceptedOpFits r (offeredOp (decodeRequest r)) code := by
  cases code with
  | ok =>
    obtain ⟨hop, _⟩ := h
    exact (offeredOp_decodeRequest r).trans (by rw [hop]; rfl)
  | unreachableFreq =>
    obtain ⟨hop, _⟩ := h
    exact (offeredOp_decodeRequest r).trans (by rw [hop]; rfl)
  | reqInvalid => exact hostOpCode_offeredOp r
  | sent | linkTimeout | formatError | configError | none => exact h

/-! ### The record of an exchange -/

theorem eq_zeroBytes_of_tailZero {r : Bytes5} (h : tailZero r 0 = true) : r = zeroBytes := by
  cases r
  simpa [tailZero, zeroBytes, and_assoc] using h

theorem eq_of_tailZero_one {r : Bytes5} (h : tailZero r 1 = true) : r = ⟨r.b0, 0, 0, 0, 0⟩ := by
  cases r
  simpa [tailZero, and_assoc] using h

/-- The operations that fit an exchange without a reply (R100, R124). -/
theorem sentOp_of_lengthFits {op : HostOp} (h : lengthFits op 0 = true) : op = .setFreq ∨ op = .rawExchange := by
  cases op <;> simp_all [lengthFits]

/-- What an outcome of the state machine records in `t`, for an exchange that was in `s` (R156). -/
def exchangeRecord (s t : State) : ResultCode → Prop
  | .ok =>
    (t.op = .getFreqMode ∧ t.expLen = 5 ∧ t.rxbuf = s.rxbuf ∧ t.res = decodeFreqMode s.rxbuf zeroResults) ∨
    (t.op = .getRxStatus ∧ t.expLen = 1 ∧ t.rxbuf = ⟨s.rxbuf.b0, 0, 0, 0, 0⟩ ∧
      t.res = decodeRxStatus s.rxbuf.b0 zeroResults) ∨
    (t.op = .getTxStatus ∧ t.expLen = 1 ∧ t.rxbuf = ⟨s.rxbuf.b0, 0, 0, 0, 0⟩ ∧
      t.res = decodeTxStatus s.params.txsPolarity s.rxbuf.b0 zeroResults) ∨
    (t.op = .rawExchange ∧ t.expLen = s.expLen ∧ t.rxbuf = s.rxbuf ∧ tailZero t.rxbuf t.expLen = true ∧
      t.res = zeroResults)
  | .sent => (t.op = .setFreq ∨ t.op = .rawExchange) ∧ t.NothingReceived
  | .linkTimeout =>
    (t.op = .getFreqMode ∨ t.op = .getRxStatus ∨ t.op = .getTxStatus ∨ t.op = .rawExchange) ∧
      t.expLen = s.expLen ∧ lengthFits t.op t.expLen = true ∧ t.rxbuf = zeroBytes ∧ t.res = zeroResults
  | .formatError => t.op = .getFreqMode ∧ t.expLen = 5 ∧ t.rxbuf = s.rxbuf ∧ t.res = zeroResults
  | _ => False

/-- SENT ends an exchange that awaits no reply, so no byte was collected (R124). -/
theorem send_record {s : State} (h : s.Sound) (hst : s.st = .sending)
    (hdone : (send s (beginCycle s)).doneQ = true) :
    exchangeRecord s (send s (beginCycle s)) (send s (beginCycle s)).resOutcome := by
  have hx := (h.exchangeInv (by simp [inExchange, hst])).after_beginCycle
  rcases send_cases s (beginCycle s) with ⟨_, e⟩ | ⟨_, _, e⟩ | ⟨_, _, hlen, e⟩ | ⟨_, _, _, e⟩ | ⟨_, _, e⟩ <;>
    rw [e] at hdone ⊢
  case inr.inr.inl =>
    have hlen0 : (beginCycle s).expLen = 0 := (beginCycle_expLen s).trans hlen
    have hcnt0 : (beginCycle s).rxCnt = 0 := by
      obtain ⟨hcnt, _⟩ := hx.lengths
      bv_omega
    exact ⟨sentOp_of_lengthFits (hlen0 ▸ hx.fits), hlen0, eq_zeroBytes_of_tailZero (hcnt0 ▸ hx.clean), hx.cleared⟩
  all_goals simp at hdone

/-- A completion of REPLIED keeps the reply, which fills EXP_LEN, and decodes it into cleared results (R132, R143 to
R146). -/
theorem replied_record {s t : State} (h : s.Sound) (hst : s.st = .replied)
    (hreplied : replied s (idleAfter s) = .next t) : exchangeRecord s t t.resOutcome := by
  obtain ⟨_, _, _, _, hclean, hfits, hcleared, _⟩ := h.exchangeInv (by simp [inExchange, hst])
  obtain ⟨hfull, _⟩ := h.inv.replied hst
  rw [hfull] at hclean
  rcases replied_cases hreplied with ⟨hop, rfl⟩ | ⟨hop, rfl⟩ | ⟨hop, rfl⟩ | ⟨hop, rfl⟩ <;> rw [hop] at hfits
  · have hlen : s.expLen = 5 := of_decide_eq_true hfits
    rw [completeFreqMode]
    split
    · exact .inl ⟨hop, hlen, rfl, by rw [← hcleared]; rfl⟩
    · exact ⟨hop, hlen, rfl, hcleared⟩
  · have hlen : s.expLen = 1 := of_decide_eq_true hfits
    exact .inr (.inl ⟨hop, hlen, eq_of_tailZero_one (hlen ▸ hclean), by rw [← hcleared]; rfl⟩)
  · have hlen : s.expLen = 1 := of_decide_eq_true hfits
    exact .inr (.inr (.inl ⟨hop, hlen, eq_of_tailZero_one (hlen ▸ hclean), by rw [← hcleared]; rfl⟩))
  · exact .inr (.inr (.inr ⟨hop, rfl, rfl, hclean, hcleared⟩))

/-- LINK_TIMEOUT keeps the exchange's request and clears the reply (R133). -/
theorem timedOut_record {s : State} (h : s.Sound) (hst : s.st = .timedOut) :
    exchangeRecord s (timedOut (idleAfter s)) .linkTimeout := by
  have hx := h.exchangeInv (by simp [inExchange, hst])
  obtain ⟨hlen, _⟩ := h.timed hst
  exact ⟨awaitingOp_of_lengthFits hx.fits hlen, rfl, hx.fits, rfl, hx.cleared⟩

theorem quietCycle_record {s t : State} (h : s.Sound) (hquiet : quietCycle s = .next t) (hdone : t.doneQ = true) :
    exchangeRecord s t t.resOutcome := by
  rcases quietCycle_cases hquiet with ⟨_, rfl⟩ | ⟨hst, rfl⟩ | ⟨_, rfl⟩ | ⟨hst, hreplied⟩ | ⟨hst, rfl⟩
  · simp at hdone
  · exact send_record h hst hdone
  · simp at hdone
  · exact replied_record h hst hreplied
  · exact timedOut_record h hst

/-- Settles O50: an accept in IDLE or CFGERR records its operation with nothing received, and the state machine records
the exchange. -/
theorem completionRecords : Obligations.CompletionRecords := by
  intro s t h hrst hstep hdone
  rcases step_cases hstep with ⟨hrst', _⟩ | ⟨_, _, _, hoffered⟩ | ⟨_, _, _, rfl⟩ | ⟨_, _, hquiet⟩
  · simp [hrst] at hrst'
  · rcases accept_cases hoffered with ⟨_, frame, len, rfl⟩ | ⟨_, code, len, hcause, rfl⟩
    · simp at hdone
    · have hop := acceptedOpFits_of_acceptCause hcause
      have hnothing := completeNow_nothingReceived code (offeredOp (decodeRequest s.pins.req)) len s
      rw [completeNow_resOutcome]
      cases code
      case ok => exact .inr (.inr (.inr (.inr ⟨hop, hnothing⟩)))
      case unreachableFreq | reqInvalid => exact ⟨hop, hnothing⟩
      all_goals exact hop.elim
  · exact ⟨hostOpCode_offeredOp _, completeNow_nothingReceived _ _ s.chunkSize s⟩
  · have hrecord := quietCycle_record h hquiet hdone
    cases hcode : t.resOutcome <;> rw [hcode] at hrecord
    case ok =>
      rcases hrecord with hrecord | hrecord | hrecord | hrecord
      · exact .inl hrecord
      · exact .inr (.inl hrecord)
      · exact .inr (.inr (.inl hrecord))
      · exact .inr (.inr (.inr (.inl hrecord)))
    case sent | linkTimeout | formatError => exact hrecord
    all_goals exact hrecord.elim

end Sys2Proof.Machine

/-! PROOFS. Reset: a step with `rst` up is the reset cycle, whose registers are fixed but for ST, which the strap selects
(R167, R168). -/

namespace Sys2Proof.Machine

/-- With a configured channel and the default parameters a reset cycle leaves `State.reset`, except for the model's own
schedule and cycle count. -/
theorem resetCycle_configured {s : State} (hconf : s.pins.chanConfigured = true)
    (hparams : s.params = Config.defaultParams) :
    resetCycle s = { State.reset with sched := s.sched.tail, cycle := s.cycle + 1 } := by
  rw [resetCycle, hconf, hparams]
  rfl

/-- Settles O15: the step is the reset cycle, and each register of `resetRegisters` is the one R167 lists. -/
theorem resetCycleSetsEveryRegister : Obligations.ResetCycleSetsEveryRegister := by
  intro s hrst
  exact ⟨resetCycle s, step_rst hrst, rfl⟩

/-- Settles O16: the step is the reset cycle, which differs from `State.reset` in the schedule and the count only. -/
theorem resetStateIsWhatAResetCycleLeaves : Obligations.ResetStateIsWhatAResetCycleLeaves := by
  intro s hrst hconf hparams
  refine ⟨resetCycle s, step_rst hrst, ?_⟩
  rw [resetCycle_configured hconf hparams]
  rfl

end Sys2Proof.Machine
